-- ==== Sys2Proof/Word.lean ====
section
/-! DEFINITION. The words of the ICSP protocol engine (spec/00_scope.md R2, R7, R8): their widths, by name. -/

namespace Sys2Proof

/-- A 6-bit command code (R2 `CMD_BITS`). -/
abbrev Code := BitVec 6

/-- A 16-bit frame as it goes over the wire, bit 0 first (R2 `FRAME_BITS`, R73). -/
abbrev WireFrame := BitVec 16

/-- A 14-bit program-memory word (R2 `WORD_BITS`). -/
abbrev Word14 := BitVec 14

/-- An 8-bit data-memory byte (R2 `BYTE_BITS`). -/
abbrev Byte := BitVec 8

/-- The 16-bit argument field of a request (R105). -/
abbrev Arg := BitVec 16

/-- The 8-bit command field of a request (R105). -/
abbrev Cmd := BitVec 8

/-- A 32-bit request word (R105). -/
abbrev RequestWord := BitVec 32

/-- A bus transaction laid out in bytes: the command code in bits 5:0 of the first byte, then the 16-bit frame
that follows it, low byte first (assumption log 9). -/
abbrev TransactionWord := BitVec 24

end Sys2Proof
end

