-- ==== Sys2Proof/Syntax.lean ====
section
/-! DEFINITION. The instructions: one constructor per row of spec/opcode_table.json (25 request operations of R106 and
11 wire command codes of R91), and the names the encodings are written with. -/

namespace Sys2Proof

/-- The instructions of the engine. The request operations carry the operand fields R106 says they use; the wire
command codes carry their two don't-care bits `x` (R90, R110) where the template has them, and the write frame `f`
where one follows the code (R91, R103). -/
inductive Instr where
  /-- START, op 0x01 (R190). -/
  | start
  /-- SHUTDOWN, op 0x02 (R191). -/
  | shutdown
  /-- RESET, op 0x03 (R192). -/
  | reset
  /-- PROGRAM_CYCLE, op 0x04 (R193). -/
  | programCycle (d : Arg)
  /-- READ_OSCCAL, op 0x05 (R196). -/
  | readOsccal
  /-- READ_ID_BANDGAP, op 0x06 (R197). -/
  | readIdBandgap
  /-- BULK_ERASE_DEVICE, op 0x07 (R198). -/
  | bulkEraseDevice
  /-- CLEAN_DEVICE, op 0x08 (R199). -/
  | cleanDevice
  /-- SESSION, op 0x09 (R204). -/
  | session
  /-- LOAD_CONFIG, op 0x10 (R162). -/
  | loadConfig (d : Arg)
  /-- LOAD_PROGRAM, op 0x11 (R163). -/
  | loadProgram (d : Arg)
  /-- LOAD_DATA, op 0x12 (R164). -/
  | loadData (d : Arg)
  /-- INCREMENT_ADDRESS, op 0x13 (R165). -/
  | incrementAddress
  /-- END_PROGRAMMING, op 0x14 (R166). -/
  | endProgramming
  /-- READ_PROGRAM, op 0x15 (R167). -/
  | readProgram
  /-- READ_DATA, op 0x16 (R168). -/
  | readData
  /-- BEGIN_PROGRAM, op 0x17 (R169). -/
  | beginProgram
  /-- ERASE_PROGRAM, op 0x18 (R170). -/
  | eraseProgram
  /-- ERASE_DATA, op 0x19 (R171). -/
  | eraseData
  /-- SEND_CMD, op 0x1A (R142). -/
  | sendCmd (c : Cmd)
  /-- SEND_CMD_DATA, op 0x1B (R140). -/
  | sendCmdData (c : Cmd) (d : Arg)
  /-- SEND_CMD_BYTE, op 0x1C (R141). -/
  | sendCmdByte (c : Cmd) (d : Arg)
  /-- SEND_CMD_READ, op 0x1D (R143). -/
  | sendCmdRead (c : Cmd)
  /-- SEND_CMD_READ_BYTE, op 0x1E (R144). -/
  | sendCmdReadByte (c : Cmd)
  /-- REST, op 0x1F (R126). -/
  | rest (n : Arg)
  /-- LoadConfiguration, code 0x00 (R92). -/
  | wireLoadConfiguration (x : BitVec 2) (f : WireFrame)
  /-- LoadDataForProgramMemory, code 0x02 (R93). -/
  | wireLoadDataForProgramMemory (x : BitVec 2) (f : WireFrame)
  /-- IncrementAddress, code 0x06 (R94). -/
  | wireIncrementAddress (x : BitVec 2)
  /-- EndProgramming, code 0x0A (R95). -/
  | wireEndProgramming
  /-- LoadDataForDataMemory, code 0x03 (R96). -/
  | wireLoadDataForDataMemory (x : BitVec 2) (f : WireFrame)
  /-- ReadDataFromProgramMemory, code 0x04 (R97). -/
  | wireReadDataFromProgramMemory (x : BitVec 2)
  /-- ReadDataFromDataMemory, code 0x05 (R98). -/
  | wireReadDataFromDataMemory (x : BitVec 2)
  /-- BeginProgrammingInternallyTimed, code 0x08 (R99). -/
  | wireBeginProgrammingInternallyTimed
  /-- BulkEraseProgramMemory, code 0x09 (R100). -/
  | wireBulkEraseProgramMemory (x : BitVec 2)
  /-- BulkEraseDataMemory, code 0x0B (R101). -/
  | wireBulkEraseDataMemory (x : BitVec 2)
  /-- BeginProgrammingExternallyTimed, code 0x18 (R102). -/
  | wireBeginProgrammingExternallyTimed
  deriving DecidableEq, Repr

/-- The eleven named command codes, in the order of the table of R91. -/
inductive CommandCode where
  | loadConfiguration
  | loadDataForProgramMemory
  | incrementAddress
  | endProgramming
  | loadDataForDataMemory
  | readDataFromProgramMemory
  | readDataFromDataMemory
  | beginProgrammingInternallyTimed
  | beginProgrammingExternallyTimed
  | bulkEraseProgramMemory
  | bulkEraseDataMemory
  deriving DecidableEq, Repr

/-- A character of a command-code template (R90): a fixed 0, a fixed 1, or `X`. -/
inductive TemplateBit where
  | zero
  | one
  | x
  deriving DecidableEq, Repr

/-- The bits of an instruction, in the format they stand in: a request word on the request port (R105), or a bus
transaction (R91, R103; assumption logs 7 and 9). -/
inductive Encoded where
  | request (q : RequestWord)
  | transaction (w : TransactionWord)
  deriving DecidableEq, Repr

/-- Why bits are no instruction. Each rejection names what is wrong. -/
inductive DecodeError where
  /-- `rsv` is not 0 (R108). -/
  | reservedBits (rsv : BitVec 3)
  /-- `op` is none of the operations of R106 (R108). -/
  | unassignedOp (op : BitVec 5)
  /-- The byte that holds the 6-bit code has bit 6 or bit 7 set. -/
  | codeTooWide (hi : BitVec 2)
  /-- The 6-bit code selects none of the eleven codes (R109). -/
  | undefinedCode (c : Code)
  /-- The write frame has its start bit, bit 0, at 1 (R103). -/
  | startBit (f : WireFrame)
  /-- The write frame has its stop bit, bit 15, at 1 (R103). -/
  | stopBit (f : WireFrame)
  /-- The write frame of a byte has a padding bit, 14:9, at 1 (R103). -/
  | padding (f : WireFrame)
  /-- No write frame follows the code, and the bits after it are not 0 (R91). -/
  | trailingBits (f : WireFrame)
  deriving DecidableEq, Repr

end Sys2Proof
end

