-- ==== Sys2Proof/WellFormed.lean ====
section
/-! DEFINITION. When an instruction is well formed. A request's operands may have every value of their fields: the range
checks belong to the operation run, not to the decoder (R107). A wire command code with a write frame is well formed
when the frame is one the engine can build (R103). -/

namespace Sys2Proof

/-- A word frame: start bit and stop bit 0 (R103). -/
def wordFrameOk (f : WireFrame) : Bool := !f.getLsbD 0 && !f.getLsbD 15

/-- A byte frame: start bit, stop bit and padding bits 14:9 all 0 (R103). -/
def byteFrameOk (f : WireFrame) : Bool := wordFrameOk f && f.extractLsb' 9 6 == 0#6

/-- The well-formedness check of an instruction. -/
def Instr.wellFormed : Instr → Bool
  | .start => true
  | .shutdown => true
  | .reset => true
  | .programCycle _ => true
  | .readOsccal => true
  | .readIdBandgap => true
  | .bulkEraseDevice => true
  | .cleanDevice => true
  | .session => true
  | .loadConfig _ => true
  | .loadProgram _ => true
  | .loadData _ => true
  | .incrementAddress => true
  | .endProgramming => true
  | .readProgram => true
  | .readData => true
  | .beginProgram => true
  | .eraseProgram => true
  | .eraseData => true
  | .sendCmd _ => true
  | .sendCmdData _ _ => true
  | .sendCmdByte _ _ => true
  | .sendCmdRead _ => true
  | .sendCmdReadByte _ => true
  | .rest _ => true
  | .wireLoadConfiguration _ f => wordFrameOk f
  | .wireLoadDataForProgramMemory _ f => wordFrameOk f
  | .wireIncrementAddress _ => true
  | .wireEndProgramming => true
  | .wireLoadDataForDataMemory _ f => byteFrameOk f
  | .wireReadDataFromProgramMemory _ => true
  | .wireReadDataFromDataMemory _ => true
  | .wireBeginProgrammingInternallyTimed => true
  | .wireBulkEraseProgramMemory _ => true
  | .wireBulkEraseDataMemory _ => true
  | .wireBeginProgrammingExternallyTimed => true

end Sys2Proof
end

