-- ==== Sys2Proof/Decode.lean ====
section
/-! DEFINITION. Decoding and encoding, both formats: the request word (R105, R106, R108) and the wire command codes
(R90 to R104, R109). Decoding is total and rejects by name. -/

namespace Sys2Proof

/-! ### The command codes (R90, R91) -/

/-- The eleven codes in the order of R91. -/
def CommandCode.all : List CommandCode :=
  [.loadConfiguration, .loadDataForProgramMemory, .incrementAddress, .endProgramming, .loadDataForDataMemory,
   .readDataFromProgramMemory, .readDataFromDataMemory, .beginProgrammingInternallyTimed,
   .beginProgrammingExternallyTimed, .bulkEraseProgramMemory, .bulkEraseDataMemory]

/-- The six-character template of a code, its leftmost character first (R91). -/
def CommandCode.template : CommandCode → List TemplateBit
  | .loadConfiguration => [.x, .x, .zero, .zero, .zero, .zero]
  | .loadDataForProgramMemory => [.x, .x, .zero, .zero, .one, .zero]
  | .incrementAddress => [.x, .x, .zero, .one, .one, .zero]
  | .endProgramming => [.zero, .zero, .one, .zero, .one, .zero]
  | .loadDataForDataMemory => [.x, .x, .zero, .zero, .one, .one]
  | .readDataFromProgramMemory => [.x, .x, .zero, .one, .zero, .zero]
  | .readDataFromDataMemory => [.x, .x, .zero, .one, .zero, .one]
  | .beginProgrammingInternallyTimed => [.zero, .zero, .one, .zero, .zero, .zero]
  | .beginProgrammingExternallyTimed => [.zero, .one, .one, .zero, .zero, .zero]
  | .bulkEraseProgramMemory => [.x, .x, .one, .zero, .zero, .one]
  | .bulkEraseDataMemory => [.x, .x, .one, .zero, .one, .one]

/-- A template read most-significant character first, a `1` giving 1 and a `0` or an `X` giving 0 (R90). -/
def templateValue (t : List TemplateBit) : Code :=
  t.foldl (fun v b => (v <<< 1) ||| (if b = .one then 1#6 else 0#6)) 0#6

/-- The mask of a template: 1 for every character that is not `X` (R91). -/
def templateMask (t : List TemplateBit) : Code :=
  t.foldl (fun v b => (v <<< 1) ||| (if b = .x then 0#6 else 1#6)) 0#6

/-- The value of a code: its template with `X` as 0 (R91). -/
def CommandCode.value (k : CommandCode) : Code := templateValue k.template

/-- The mask of a code (R91). -/
def CommandCode.mask (k : CommandCode) : Code := templateMask k.template

/-- A six-bit word selects a code when the word under the code's mask is the code's value (R91). -/
def CommandCode.selectedBy (k : CommandCode) (c : Code) : Bool := c &&& k.mask == k.value

/-- The code a six-bit word selects, or none (R91, R109). -/
def selectCode (c : Code) : Option CommandCode := CommandCode.all.find? (fun k => k.selectedBy c)

/-- A code of mask 0x0F sent with its two `X` bits, bits 5:4, as given (R110). -/
def CommandCode.withX (k : CommandCode) (x : BitVec 2) : Code := k.value ||| (x.setWidth 6 <<< 4)

/-! ### Request words (R105 to R108) -/

/-- The reserved field, bits 31:29 (R105). -/
def requestRsv (q : RequestWord) : BitVec 3 := q.extractLsb' 29 3

/-- The operation field, bits 28:24 (R105). -/
def requestOp (q : RequestWord) : BitVec 5 := q.extractLsb' 24 5

/-- The command field, bits 23:16 (R105). -/
def requestCmd (q : RequestWord) : Cmd := q.extractLsb' 16 8

/-- The argument field, bits 15:0 (R105). -/
def requestArg (q : RequestWord) : Arg := q.extractLsb' 0 16

/-- `op << 24 | cmd << 16 | arg` with `rsv = 0` (R105). -/
def packRequest (op : BitVec 5) (c : Cmd) (d : Arg) : RequestWord := 0#3 ++ op ++ c ++ d

/-- The operation of a request, by its op number (R106, R222). -/
def decodeOp (op : BitVec 5) (c : Cmd) (d : Arg) : Except DecodeError Instr :=
  match op.toNat with
  | 0x01 => .ok .start
  | 0x02 => .ok .shutdown
  | 0x03 => .ok .reset
  | 0x04 => .ok (.programCycle d)
  | 0x05 => .ok .readOsccal
  | 0x06 => .ok .readIdBandgap
  | 0x07 => .ok .bulkEraseDevice
  | 0x08 => .ok .cleanDevice
  | 0x09 => .ok .session
  | 0x10 => .ok (.loadConfig d)
  | 0x11 => .ok (.loadProgram d)
  | 0x12 => .ok (.loadData d)
  | 0x13 => .ok .incrementAddress
  | 0x14 => .ok .endProgramming
  | 0x15 => .ok .readProgram
  | 0x16 => .ok .readData
  | 0x17 => .ok .beginProgram
  | 0x18 => .ok .eraseProgram
  | 0x19 => .ok .eraseData
  | 0x1A => .ok (.sendCmd c)
  | 0x1B => .ok (.sendCmdData c d)
  | 0x1C => .ok (.sendCmdByte c d)
  | 0x1D => .ok (.sendCmdRead c)
  | 0x1E => .ok (.sendCmdReadByte c)
  | 0x1F => .ok (.rest d)
  | _ => .error (.unassignedOp op)

/-- A request word decoded. It is rejected exactly when R108 calls it illegal; `cmd` and `arg` of an operation that
does not use them are ignored. -/
def decodeRequest (q : RequestWord) : Except DecodeError Instr :=
  if requestRsv q ≠ 0#3 then .error (.reservedBits (requestRsv q))
  else decodeOp (requestOp q) (requestCmd q) (requestArg q)

/-! ### Bus transactions (R91 to R104; assumption logs 7 and 9) -/

/-- The transaction of a code after which nothing is sent: the bits after it are 0. -/
def withoutFrame (f : WireFrame) (i : Instr) : Except DecodeError Instr :=
  if f ≠ 0#16 then .error (.trailingBits f) else .ok i

/-- The transaction of a code followed by a word frame (R103). -/
def withWordFrame (f : WireFrame) (i : Instr) : Except DecodeError Instr :=
  if f.getLsbD 0 then .error (.startBit f)
  else if f.getLsbD 15 then .error (.stopBit f)
  else .ok i

/-- The transaction of a code followed by a byte frame (R103). -/
def withByteFrame (f : WireFrame) (i : Instr) : Except DecodeError Instr :=
  if f.getLsbD 0 then .error (.startBit f)
  else if f.getLsbD 15 then .error (.stopBit f)
  else if f.extractLsb' 9 6 ≠ 0#6 then .error (.padding f)
  else .ok i

/-- The transaction a code starts, with its `X` bits and the bits that follow it. -/
def decodeTransactionOf (k : CommandCode) (x : BitVec 2) (f : WireFrame) : Except DecodeError Instr :=
  match k with
  | .loadConfiguration => withWordFrame f (.wireLoadConfiguration x f)
  | .loadDataForProgramMemory => withWordFrame f (.wireLoadDataForProgramMemory x f)
  | .incrementAddress => withoutFrame f (.wireIncrementAddress x)
  | .endProgramming => withoutFrame f .wireEndProgramming
  | .loadDataForDataMemory => withByteFrame f (.wireLoadDataForDataMemory x f)
  | .readDataFromProgramMemory => withoutFrame f (.wireReadDataFromProgramMemory x)
  | .readDataFromDataMemory => withoutFrame f (.wireReadDataFromDataMemory x)
  | .beginProgrammingInternallyTimed => withoutFrame f .wireBeginProgrammingInternallyTimed
  | .beginProgrammingExternallyTimed => withoutFrame f .wireBeginProgrammingExternallyTimed
  | .bulkEraseProgramMemory => withoutFrame f (.wireBulkEraseProgramMemory x)
  | .bulkEraseDataMemory => withoutFrame f (.wireBulkEraseDataMemory x)

/-- The 6-bit code of a transaction, bits 5:0. -/
def transactionCode (w : TransactionWord) : Code := w.extractLsb' 0 6

/-- The two bits above the code in its byte, bits 7:6. -/
def transactionHigh (w : TransactionWord) : BitVec 2 := w.extractLsb' 6 2

/-- The frame after the code, bits 23:8. -/
def transactionFrame (w : TransactionWord) : WireFrame := w.extractLsb' 8 16

/-- A transaction decoded. -/
def decodeTransaction (w : TransactionWord) : Except DecodeError Instr :=
  if transactionHigh w ≠ 0#2 then .error (.codeTooWide (transactionHigh w))
  else match selectCode (transactionCode w) with
    | none => .error (.undefinedCode (transactionCode w))
    | some k => decodeTransactionOf k ((transactionCode w).extractLsb' 4 2) (transactionFrame w)

/-- The decoder: total on the bits of either format. -/
def decode : Encoded → Except DecodeError Instr
  | .request q => decodeRequest q
  | .transaction w => decodeTransaction w

/-! ### The encoder -/

/-- A code and the frame after it, as a transaction word. -/
def packTransaction (c : Code) (f : WireFrame) : TransactionWord := f ++ 0#2 ++ c

/-- The bits of an instruction (R91, R103, R105, R106). Unused fields of a request are written as 0. -/
def encode : Instr → Encoded
  | .start => .request (packRequest 0x01#5 0#8 0#16)
  | .shutdown => .request (packRequest 0x02#5 0#8 0#16)
  | .reset => .request (packRequest 0x03#5 0#8 0#16)
  | .programCycle d => .request (packRequest 0x04#5 0#8 d)
  | .readOsccal => .request (packRequest 0x05#5 0#8 0#16)
  | .readIdBandgap => .request (packRequest 0x06#5 0#8 0#16)
  | .bulkEraseDevice => .request (packRequest 0x07#5 0#8 0#16)
  | .cleanDevice => .request (packRequest 0x08#5 0#8 0#16)
  | .session => .request (packRequest 0x09#5 0#8 0#16)
  | .loadConfig d => .request (packRequest 0x10#5 0#8 d)
  | .loadProgram d => .request (packRequest 0x11#5 0#8 d)
  | .loadData d => .request (packRequest 0x12#5 0#8 d)
  | .incrementAddress => .request (packRequest 0x13#5 0#8 0#16)
  | .endProgramming => .request (packRequest 0x14#5 0#8 0#16)
  | .readProgram => .request (packRequest 0x15#5 0#8 0#16)
  | .readData => .request (packRequest 0x16#5 0#8 0#16)
  | .beginProgram => .request (packRequest 0x17#5 0#8 0#16)
  | .eraseProgram => .request (packRequest 0x18#5 0#8 0#16)
  | .eraseData => .request (packRequest 0x19#5 0#8 0#16)
  | .sendCmd c => .request (packRequest 0x1A#5 c 0#16)
  | .sendCmdData c d => .request (packRequest 0x1B#5 c d)
  | .sendCmdByte c d => .request (packRequest 0x1C#5 c d)
  | .sendCmdRead c => .request (packRequest 0x1D#5 c 0#16)
  | .sendCmdReadByte c => .request (packRequest 0x1E#5 c 0#16)
  | .rest n => .request (packRequest 0x1F#5 0#8 n)
  | .wireLoadConfiguration x f => .transaction (packTransaction (CommandCode.loadConfiguration.withX x) f)
  | .wireLoadDataForProgramMemory x f => .transaction (packTransaction (CommandCode.loadDataForProgramMemory.withX x) f)
  | .wireIncrementAddress x => .transaction (packTransaction (CommandCode.incrementAddress.withX x) 0#16)
  | .wireEndProgramming => .transaction (packTransaction CommandCode.endProgramming.value 0#16)
  | .wireLoadDataForDataMemory x f => .transaction (packTransaction (CommandCode.loadDataForDataMemory.withX x) f)
  | .wireReadDataFromProgramMemory x => .transaction (packTransaction (CommandCode.readDataFromProgramMemory.withX x) 0#16)
  | .wireReadDataFromDataMemory x => .transaction (packTransaction (CommandCode.readDataFromDataMemory.withX x) 0#16)
  | .wireBeginProgrammingInternallyTimed => .transaction (packTransaction CommandCode.beginProgrammingInternallyTimed.value 0#16)
  | .wireBulkEraseProgramMemory x => .transaction (packTransaction (CommandCode.bulkEraseProgramMemory.withX x) 0#16)
  | .wireBulkEraseDataMemory x => .transaction (packTransaction (CommandCode.bulkEraseDataMemory.withX x) 0#16)
  | .wireBeginProgrammingExternallyTimed => .transaction (packTransaction CommandCode.beginProgrammingExternallyTimed.value 0#16)

/-! ### The host's window on the decoder -/

/-- The bits of an opcode-table row of `nbits` bits, in the format the row stands in: 32 bits are a request word, fewer
are a transaction whose bits above `nbits` are 0. -/
def encodedOfTable (nbits w : Nat) : Encoded :=
  if nbits ≤ 24 then .transaction (BitVec.ofNat 24 (w % 2 ^ nbits)) else .request (BitVec.ofNat 32 (w % 2 ^ nbits))

/-- The instruction the decoder reads from an opcode-table row's bits. -/
def decodeTableWord (nbits w : Nat) : Option Instr :=
  match decode (encodedOfTable nbits w) with
  | .ok i => some i
  | .error _ => none

end Sys2Proof
end

