-- ==== Sys2Proof/Config.lean ====
section
/-! DEFINITION. What an implementation or its environment fixes: the numeric constants of R3, the parameters of R4 to
R6, the inputs of an edge instant (R220), and the values the spec leaves free. -/

namespace Sys2Proof

namespace Config

/-- Clock cycles of `Tprog` (R3, R145). -/
def tprogCycles : Nat := 3

/-- Clock cycles of `Terase` (R3, R146). -/
def teraseCycles : Nat := 3

/-- IncrementAddress verbs before the OSCCAL read (R3, R196). -/
def osccalIncrements : Nat := 3

/-- Identity words (R3, R197). -/
def idWords : Nat := 4

/-- Skip-only IncrementAddress verbs before the band-gap read (R3, R197). -/
def idSkip : Nat := 3

/-- Bits of a command code (R2). -/
def cmdBits : Nat := 6

/-- Bits of a frame (R2). -/
def frameBits : Nat := 16

end Config

/-- `STROBE_SCHEDULE` (R4): under `free` the environment chooses both inputs, under `locked` the raw strobe equals the
clock edge for edge (R62). -/
inductive StrobeSchedule where
  | free
  | locked
  deriving DecidableEq, Repr

/-- The implementation parameters of R4, R5 and R6. They are fixed for a machine: no step changes them. -/
structure Params where
  /-- `OSCCAL_CHECK` (R5). -/
  osccalCheck : Bool
  /-- `HAS_TS_FORCE` (R6). -/
  hasTsForce : Bool
  /-- `STROBE_SCHEDULE` (R4). -/
  schedule : StrobeSchedule
  deriving DecidableEq, Repr

/-- The defaults of R4, R5 and R6. -/
def Params.default : Params := { osccalCheck := false, hasTsForce := true, schedule := .free }

/-- What the environment supplies at one instant: the new levels of the input ports of R220, and its choice of the
order in which the processes run (R68). -/
structure Input where
  clk : Bool
  rawStb : Bool
  lineIn : Bool
  rst : Bool
  reqValid : Bool
  reqWord : RequestWord
  tsForceValid : Bool
  tsForceVal : BitVec 2
  /-- The main process runs before the label process at this instant (R68; assumption log 6). -/
  mainFirst : Bool
  deriving DecidableEq, Repr, Inhabited

namespace Config

/-- FREE VALUE: what the environment supplies at the n-th instant when the state's script is empty. The clock and
strobe generator, the target and the host are outside the block (R60, R66, R260; assumption log 2). -/
opaque environment : Nat → Input

/-- FREE VALUE: `OSCCAL_VALID`, the predicate of the OSCCAL sanity check, which the spec leaves OPEN (R5, D24;
assumption log 10). -/
opaque osccalValid : Word14 → Bool

end Config

end Sys2Proof
end

