-- ==== Sys2Proof/Machine/State.lean ====
section
/-! DEFINITION. The state of the engine (spec/10_state.md), as plain data, and its value after reset (R280). -/

namespace Sys2Proof.Machine

/-- TransportState (R22). The encoding 3 is never held (U13; assumption log 13). -/
inductive TransportState where
  | tx
  | rx
  | rest
  deriving DecidableEq, Repr

/-- CommandLabel (R23), in the source's listing order. Encodings 11 to 15 are never held (U13). -/
inductive CommandLabel where
  | none
  | loadConfig
  | loadProgram
  | loadData
  | incrementAddress
  | endProgramming
  | readProgram
  | readData
  | beginProgram
  | eraseProgram
  | eraseData
  deriving DecidableEq, Repr

/-- The sequence state (R24). -/
inductive SequenceState where
  | uninitialized
  | running
  | shuttingDown
  deriving DecidableEq, Repr

/-- `engine_state` (R34). -/
inductive EngineState where
  | idle
  | busy
  | faulted
  deriving DecidableEq, Repr

/-- The codes of `err_code` (R250). Codes 9 to 15 are never written. -/
inductive ErrorCode where
  | none
  | cmdWidth
  | dataWidth
  | byteWidth
  | frame
  | faultyWrite
  | precondition
  | invalidOsccal
  | illegalRequest
  deriving DecidableEq, Repr

/-- A core-driven line: its current value and its pending value (R26). -/
structure Line where
  cur : Bool
  pend : Option Bool
  deriving DecidableEq, Repr

/-- The identity cache (R39). -/
structure IdentityCache where
  osccalValid : Bool
  osccal : Word14
  idValid : Bool
  id0 : Word14
  id1 : Word14
  id2 : Word14
  id3 : Word14
  bandgapValid : Bool
  bandgap : Word14
  deriving DecidableEq, Repr

/-- The five words `v[0..4]` that `readIDAndBandGap` collects (R41, R197). -/
structure FiveWords where
  v0 : Word14
  v1 : Word14
  v2 : Word14
  v3 : Word14
  v4 : Word14
  deriving DecidableEq, Repr

/-- Which payload a read frame is decoded as (R104). -/
inductive Payload where
  | word
  | byte
  deriving DecidableEq, Repr

/-- The point the main process has reached in its innermost operation (R21, R41): the `await` it is suspended at, or
the call it is about to make. -/
inductive Point where
  /-- About to run `dispatch(req)` (R221, R222). -/
  | dispatch
  /-- About to perform the bus transaction with these bits (assumption log 7). -/
  | transact (w : TransactionWord)
  /-- In `sendBits(v, n)`, awaiting STB_RISE for bit `k` (R120). -/
  | sendBit (v : WireFrame) (n k : Nat)
  /-- In `readBits(n)`, awaiting STB_FALL for sample `k`, with the accumulator `r` (R123). -/
  | readBit (n k : Nat) (r : WireFrame)
  /-- In `rest(c)`, awaiting the first CLK_RISE (R126). -/
  | restFirst (c : Nat)
  /-- In `rest(c)`, awaiting CLK_RISE in iteration `i` of the loop (R126). -/
  | restLoop (c i : Nat)
  /-- In `start()`, awaiting the CLK_RISE before `pm <= 1` (R190). -/
  | startPm
  /-- In `start()`, awaiting the CLK_RISE before `pwr <= 1` (R190). -/
  | startPwr
  /-- In `start()`, awaiting the CLK_RISE before `sen <= 1` (R190). -/
  | startSen
  /-- In `shutdown()`, awaiting the CLK_RISE before `data <= 0; sen <= 0` (R191). -/
  | shutdownData
  /-- In `shutdown()`, awaiting the CLK_RISE before `pm <= 0` (R191). -/
  | shutdownPm
  /-- In `shutdown()`, awaiting the CLK_RISE before `pwr <= 0` (R191). -/
  | shutdownPwr
  /-- In `shutdown()`, awaiting the last CLK_RISE (R191). -/
  | shutdownEnd
  /-- The protocol branch of a verb has ended with the result `x`; waiting for the label process (R70, R161). -/
  | joining (x : WireFrame)
  deriving DecidableEq, Repr

/-- A calling operation: the point after the call it has made, with its locals (R21, R41). -/
inductive Frame where
  /-- In a write framing operation, after the code is sent: the frame `f` comes next (R140, R141). -/
  | sendFrame (f : WireFrame)
  /-- In a read framing operation, after the code is sent: the read comes next (R143, R144). -/
  | readFrame (p : Payload)
  /-- In a read framing operation, after the read: the framing check comes next (R143, R144). -/
  | checkFrame (p : Payload)
  /-- After the command of BeginProgram, EraseProgram or EraseData: `rest(c)` comes next (R145, R146, R169). -/
  | timedRest (c : Nat)
  /-- In a verb, at the join of its fork (R161). -/
  | join
  | resetAfterShutdown
  | resetAfterStart
  | programAfterLoad (d : Arg)
  | programAfterBegin (d : Arg)
  | programAfterRead (d : Arg)
  | programAfterIncrement (d : Arg) (w : Word14)
  | osccalAfterReset
  | osccalAfterIncrement (i : Nat)
  | osccalAfterRead
  | idAfterReset
  | idAfterConfig
  | idAfterRead (n : Nat) (v : FiveWords)
  | idAfterIncrement (n : Nat) (v : FiveWords)
  | idAfterSkip (i : Nat) (v : FiveWords)
  | idAfterBandgap (v : FiveWords)
  | bulkAfterProgram
  | bulkAfterData
  | cleanAfterOsccal
  | cleanAfterId
  | cleanAfterBulk
  | sessionAfterClean
  | sessionAfterShutdown
  /-- In `dispatch`, after a read: `result <- x` (R222, R223). -/
  | writeResult
  deriving DecidableEq, Repr

/-- The main process: where its innermost operation stands, and the stack of calling operations, innermost first
(R41). -/
structure Process where
  point : Point
  callers : List Frame
  deriving DecidableEq, Repr

/-- The label process of a verb (R41, R161): none live, waiting for CLK_RISE to publish its label, or finished. -/
inductive LabelProcess where
  | idle
  | waiting (v : CommandLabel)
  | finished
  deriving DecidableEq, Repr

/-- The state of the engine, with the levels of its inputs, its parameters and the environment's script. -/
structure State where
  pm : Line
  pwr : Line
  data : Line
  sen : Line
  gateOpen : Bool
  ts : TransportState
  label : CommandLabel
  seq : SequenceState
  done : Bool
  engine : EngineState
  req : RequestWord
  result : Word14
  errCode : ErrorCode
  errInfo : BitVec 32
  lastComp : BitVec 4
  /-- The output `comp_valid` at the last instant (R225). -/
  compValid : Bool
  cache : IdentityCache
  main : Option Process
  labelProc : LabelProcess
  /-- The level of the input `clk` at the last instant (R31). -/
  clk : Bool
  /-- The level of the input `raw_stb` at the last instant (R31). -/
  rawStb : Bool
  /-- The level of the input `line_in` at the last instant (R32). -/
  lineIn : Bool
  params : Params
  /-- What the environment supplies at the coming instants; then `Config.environment` (assumption log 2). -/
  script : List Input
  /-- How many inputs have been consumed: the argument of `Config.environment` (assumption log 2). -/
  instant : Nat
  deriving DecidableEq, Repr

/-- Why the machine stops with a fault. The engine's own faults (R250) are no such stop: they are states. -/
inductive Fault where
  /-- Raised by the step when the main process is about to perform a bus transaction whose bits are none (R91, R103,
  R109). No operation of the spec brings the engine there: only bits placed from outside can. Safe: the model stops
  where the spec gives no operation at all (assumption log 12). -/
  | illegalTransaction
  deriving DecidableEq, Repr

/-- Why the machine refuses an instruction. -/
inductive Refusal where
  /-- Raised by `exec` for an instruction that has no meaning yet. Safe: nothing can be proved of a run through it. -/
  | notModelled (mnemonic : String)
  deriving DecidableEq, Repr

/-- What a step or a meaning answers. -/
abbrev Outcome := Host.Outcome State Fault Refusal

/-- What a run of an operation within one instant answers: it is suspended at an `await` (or has raised a fault), or
it has returned `x` to its caller. -/
inductive Progress where
  | waits (s : State)
  | returns (x : WireFrame) (s : State)
  deriving DecidableEq, Repr

/-- A line at 0 with nothing pending (R26). -/
def Line.reset : Line := { cur := false, pend := none }

/-- The empty identity cache (R39). -/
def IdentityCache.empty : IdentityCache :=
  { osccalValid := false, osccal := 0#14, idValid := false, id0 := 0#14, id1 := 0#14, id2 := 0#14, id3 := 0#14,
    bandgapValid := false, bandgap := 0#14 }

/-- The machine right after block reset (R280 and the table of 10_state.md section 8), with the parameters at their
defaults (R4, R5, R6), both clock inputs low (R62; assumption log 4) and no script (assumption log 2). -/
def State.reset : State where
  pm := Line.reset
  pwr := Line.reset
  data := Line.reset
  sen := Line.reset
  gateOpen := false
  ts := .rest
  label := .none
  seq := .uninitialized
  done := false
  engine := .idle
  req := 0#32
  result := 0#14
  errCode := .none
  errInfo := 0#32
  lastComp := 0#4
  compValid := false
  cache := IdentityCache.empty
  main := none
  labelProc := .idle
  clk := false
  rawStb := false
  lineIn := false
  params := Params.default
  script := []
  instant := 0

end Sys2Proof.Machine
end

