-- ==== Sys2Proof/Machine/Ops.lean ====
section
/-! DEFINITION. The named operations on the state: line writes and their commit (R26, R63), register writes (R64), the
strobe gate (R61), raising a fault (R253), completing a request (R223), block reset (R280). -/

namespace Sys2Proof.Machine

/-! ### Lines (R26, R63) -/

/-- `L <= v`: the value becomes pending; a second write at one instant leaves the later one (R63). -/
def Line.write (l : Line) (v : Bool) : Line := { l with pend := some v }

/-- The commit of one line: the pending value becomes the current one (R63). -/
def Line.commit (l : Line) : Line :=
  match l.pend with
  | none => l
  | some v => { cur := v, pend := none }

/-- `pm <= v` (R27). -/
def State.writePm (v : Bool) (s : State) : State := { s with pm := s.pm.write v }

/-- `pwr <= v` (R28). -/
def State.writePwr (v : Bool) (s : State) : State := { s with pwr := s.pwr.write v }

/-- `data <= v` (R29). -/
def State.writeData (v : Bool) (s : State) : State := { s with data := s.data.write v }

/-- `sen <= v` (R30). -/
def State.writeSen (v : Bool) (s : State) : State := { s with sen := s.sen.write v }

/-- Step 2 of an instant: all four lines commit together (R63, R65). -/
def State.commit (s : State) : State :=
  { s with pm := s.pm.commit, pwr := s.pwr.commit, data := s.data.commit, sen := s.sen.commit }

/-! ### Registers (R64) -/

/-- `ts <- t` (R22). -/
def State.setTs (t : TransportState) (s : State) : State := { s with ts := t }

/-- `label <- v` (R23). -/
def State.setLabel (v : CommandLabel) (s : State) : State := { s with label := v }

/-- `seq <- q` (R24). -/
def State.setSeq (q : SequenceState) (s : State) : State := { s with seq := q }

/-- `result <- x` (R36, R223). -/
def State.setResult (x : Word14) (s : State) : State := { s with result := x }

/-- A write of the identity cache (R39, R83). -/
def State.setCache (c : IdentityCache) (s : State) : State := { s with cache := c }

/-- The label process changes its position (R41). -/
def State.setLabelProc (p : LabelProcess) (s : State) : State := { s with labelProc := p }

/-! ### The main process (R21, R41, R67) -/

/-- The main process suspends at `p`, with the calling operations `k`. -/
def State.suspend (p : Point) (k : List Frame) (s : State) : State := { s with main := some { point := p, callers := k } }

/-- The calling operations of the main process. -/
def State.callers (s : State) : List Frame :=
  match s.main with
  | none => []
  | some p => p.callers

/-! ### Faults, completion, reset -/

/-- Taking a fault (R253): the code and the information are recorded, the engine is Faulted, both processes end.
Everything else keeps its value; pending line writes commit at the next instant. -/
def State.raise (code : ErrorCode) (info : BitVec 32) (s : State) : State :=
  { s with errCode := code, errInfo := info, engine := .faulted, main := none, labelProc := .idle }

/-- Completion (R223): the main process has ended without a fault. -/
def State.complete (s : State) : State := { s with engine := .idle, done := true, main := none }

/-- Block reset (R280), the only way out of a fault (R254): every piece of state takes the value of the table of
10_state.md section 8. The inputs, the parameters and the environment's script are not state of the engine. -/
def State.blockReset (s : State) : State :=
  { s with
    pm := { cur := false, pend := none }, pwr := { cur := false, pend := none },
    data := { cur := false, pend := none }, sen := { cur := false, pend := none },
    gateOpen := false, ts := .rest, label := .none, seq := .uninitialized,
    cache := IdentityCache.empty, engine := .idle, done := false,
    req := 0#32, result := 0#14, errCode := .none, errInfo := 0#32,
    lastComp := 0#4, compValid := false, main := none, labelProc := .idle }

/-! ### Inputs, events and the strobe gate (R60, R61) -/

/-- The event set of an instant (R60, R61). -/
structure Events where
  clkRise : Bool
  clkFall : Bool
  rawRise : Bool
  rawFall : Bool
  stbRise : Bool
  stbFall : Bool
  deriving DecidableEq, Repr

/-- What the environment supplies at the coming instant: the head of the script, or the free environment. -/
def State.nextInput (s : State) : Input :=
  match s.script with
  | [] => Config.environment s.instant
  | i :: _ => i

/-- The input is consumed. -/
def State.consume (s : State) : State := { s with script := s.script.tail, instant := s.instant + 1 }

/-- The level the raw strobe takes: the input's, or the clock's under LOCKED (R62; assumption log 15). -/
def rawLevel (p : Params) (i : Input) : Bool :=
  match p.schedule with
  | .free => i.rawStb
  | .locked => i.clk

/-- The events the new levels make, before the strobe gate (R60). -/
def levelEvents (s : State) (i : Input) : Events where
  clkRise := !s.clk && i.clk
  clkFall := s.clk && !i.clk
  rawRise := !s.rawStb && rawLevel s.params i
  rawFall := s.rawStb && !rawLevel s.params i
  stbRise := false
  stbFall := false

/-- An edge instant: at least one of the two inputs changes (R60). -/
def Events.any (e : Events) : Bool := e.clkRise || e.clkFall || e.rawRise || e.rawFall

/-- Step 3 of an instant: the inputs take their new levels (R65). -/
def State.setLevels (i : Input) (s : State) : State :=
  { s with clk := i.clk, rawStb := rawLevel s.params i, lineIn := i.lineIn }

/-- A pulse passes the gate: the raw strobe rises while `sen = 1` and no pulse is open (R61). -/
def gateRise (e : Events) (s : State) : Bool := e.rawRise && s.sen.cur && !s.gateOpen

/-- The pulse that passed ends: the raw strobe falls while a pulse is open (R61). -/
def gateFall (e : Events) (s : State) : Bool := e.rawFall && s.gateOpen

/-- Step 4 of an instant, the strobe events (R61). -/
def gateEvents (e : Events) (s : State) : Events := { e with stbRise := gateRise e s, stbFall := gateFall e s }

/-- Step 4 of an instant, the gate register (R61). -/
def State.gate (e : Events) (s : State) : State :=
  { s with gateOpen := if gateRise e s then true else if gateFall e s then false else s.gateOpen }

end Sys2Proof.Machine
end

