-- ==== Sys2Proof/Machine/Operands.lean ====
section
/-! DEFINITION. Operands, frames and fault information: their widths and packings (R103, R104, R107, R139, R250). -/

namespace Sys2Proof.Machine

/-! ### Range checks (R139) -/

/-- `cmd >= 64` (R139). -/
def cmdTooWide (c : Cmd) : Bool := 64 ≤ c.toNat

/-- `d >= 16384` (R139, R140). -/
def wordTooWide (d : Arg) : Bool := 16384 ≤ d.toNat

/-- `d >= 256` (R139, R141). -/
def byteTooWide (d : Arg) : Bool := 256 ≤ d.toNat

/-! ### Frames (R103, R104) -/

/-- The write frame of a payload: `(d << 1) & 0xFFFF` (R103, R140, R141). -/
def writeFrame (d : Arg) : WireFrame := d <<< 1

/-- A read frame is ill formed when its start bit or its stop bit is 1 (R104). -/
def badFraming (f : WireFrame) : Bool := f.getLsbD 0 || f.getLsbD 15

/-- The word of a read frame, `f[14:1]` (R104). -/
def frameWord (f : WireFrame) : Word14 := f.extractLsb' 1 14

/-- The byte of a read frame, `f[8:1]`; bits 14:9 are ignored (R104). -/
def frameByte (f : WireFrame) : Byte := f.extractLsb' 1 8

/-- The payload of a read frame, zero-extended (R104, R223). -/
def payloadOf (p : Payload) (f : WireFrame) : WireFrame :=
  match p with
  | .word => (frameWord f).setWidth 16
  | .byte => (frameByte f).setWidth 16

/-- A sample becomes bit `k` of the accumulator (R73, R123). -/
def setSample (r : WireFrame) (k : Nat) (b : Bool) : WireFrame :=
  (r &&& ~~~((1#16) <<< k)) ||| ((if b then 1#16 else 0#16) <<< k)

/-! ### Fault information (R250) -/

/-- `zext_32(cmd)` (R250). -/
def infoOfCmd (c : Cmd) : BitVec 32 := c.setWidth 32

/-- `zext_32(d)` (R250). -/
def infoOfArg (d : Arg) : BitVec 32 := d.setWidth 32

/-- `zext_32(f)` (R250). -/
def infoOfFrame (f : WireFrame) : BitVec 32 := f.setWidth 32

/-- `zext_32(w)` (R250). -/
def infoOfWord (w : Word14) : BitVec 32 := w.setWidth 32

/-- The information of FAULTY_WRITE: `d` in bits 29:16 and `w` in bits 13:0 (R193, R250). -/
def infoOfMismatch (d : Arg) (w : Word14) : BitVec 32 := (d.setWidth 32 <<< 16) ||| w.setWidth 32

/-- The information of PRECONDITION: 0 names OSCCAL, 1 ID, 2 BandGap (R198, R250). -/
def infoOsccalMissing : BitVec 32 := 0#32

/-- See `infoOsccalMissing`. -/
def infoIdMissing : BitVec 32 := 1#32

/-- See `infoOsccalMissing`. -/
def infoBandgapMissing : BitVec 32 := 2#32

/-! ### The collected identity words (R197) -/

/-- No word collected yet. -/
def FiveWords.empty : FiveWords := { v0 := 0#14, v1 := 0#14, v2 := 0#14, v3 := 0#14, v4 := 0#14 }

/-- `v[n] <- w` (R197). -/
def FiveWords.set (v : FiveWords) (n : Nat) (w : Word14) : FiveWords :=
  match n with
  | 0 => { v with v0 := w }
  | 1 => { v with v1 := w }
  | 2 => { v with v2 := w }
  | 3 => { v with v3 := w }
  | 4 => { v with v4 := w }
  | _ => v

end Sys2Proof.Machine
end

