-- ==== Sys2Proof/Machine/Flags.lean ====
section
/-! DEFINITION. The status values: their encodings (R22, R23, R24, R34, R250), the composite bus (R74, R225) and the
status port (R221, R224). The engine has no arithmetic flags. -/

namespace Sys2Proof.Machine

/-- The encoding of TransportState (R22). -/
def TransportState.code : TransportState → BitVec 2
  | .tx => 0
  | .rx => 1
  | .rest => 2

/-- The TransportState a code names; 3 names none (R22, R226). -/
def TransportState.ofCode (c : BitVec 2) : Option TransportState :=
  match c.toNat with
  | 0 => some .tx
  | 1 => some .rx
  | 2 => some .rest
  | _ => none

/-- The encoding of CommandLabel (R23). -/
def CommandLabel.code : CommandLabel → BitVec 4
  | .none => 0
  | .loadConfig => 1
  | .loadProgram => 2
  | .loadData => 3
  | .incrementAddress => 4
  | .endProgramming => 5
  | .readProgram => 6
  | .readData => 7
  | .beginProgram => 8
  | .eraseProgram => 9
  | .eraseData => 10

/-- The encoding of the sequence state (R24). -/
def SequenceState.code : SequenceState → BitVec 2
  | .uninitialized => 0
  | .running => 1
  | .shuttingDown => 2

/-- The encoding of `engine_state` (R34). -/
def EngineState.code : EngineState → BitVec 2
  | .idle => 0
  | .busy => 1
  | .faulted => 2

/-- The fault codes (R250). -/
def ErrorCode.code : ErrorCode → BitVec 4
  | .none => 0
  | .cmdWidth => 1
  | .dataWidth => 2
  | .byteWidth => 3
  | .frame => 4
  | .faultyWrite => 5
  | .precondition => 6
  | .invalidOsccal => 7
  | .illegalRequest => 8

/-- The composite bus value: `pm` bit 3, `pwr` bit 2, `data` bit 1, `gate_open` bit 0 (R74). -/
def State.composite (s : State) : BitVec 4 :=
  BitVec.ofBool s.pm.cur ++ BitVec.ofBool s.pwr.cur ++ BitVec.ofBool s.data.cur ++ BitVec.ofBool s.gateOpen

/-- Step 8 of an instant: a changed composite is reported, once, with its settled value (R225). -/
def State.notify (s : State) : State :=
  { s with lastComp := s.composite, compValid := s.composite != s.lastComp }

/-- The output `comp` (R220, R225), which is always written together with `last_comp` (assumption log 11). -/
def State.comp (s : State) : BitVec 4 := s.lastComp

/-- The output `stb_out` (R220). -/
def State.stbOut (s : State) : Bool := s.gateOpen

/-- The output `req_ready` (R220, R221). -/
def State.reqReady (s : State) : Bool := s.engine == .idle

/-- The status port (R224). -/
structure Status where
  engineState : BitVec 2
  done : Bool
  req : RequestWord
  result : Word14
  errCode : BitVec 4
  errInfo : BitVec 32
  ts : BitVec 2
  label : BitVec 4
  seq : BitVec 2
  osccalValid : Bool
  osccal : Word14
  idValid : Bool
  id0 : Word14
  id1 : Word14
  id2 : Word14
  id3 : Word14
  bandgapValid : Bool
  bandgap : Word14
  deriving DecidableEq, Repr

/-- What the status port shows at the end of an instant (R224). -/
def State.status (s : State) : Status where
  engineState := s.engine.code
  done := s.done
  req := s.req
  result := s.result
  errCode := s.errCode.code
  errInfo := s.errInfo
  ts := s.ts.code
  label := s.label.code
  seq := s.seq.code
  osccalValid := s.cache.osccalValid
  osccal := s.cache.osccal
  idValid := s.cache.idValid
  id0 := s.cache.id0
  id1 := s.cache.id1
  id2 := s.cache.id2
  id3 := s.cache.id3
  bandgapValid := s.cache.bandgapValid
  bandgap := s.cache.bandgap

/-- Step 5 of an instant, the TransportState force: the value 3 is ignored (R226). -/
def State.force (i : Input) (s : State) : State :=
  if s.params.hasTsForce && i.tsForceValid then
    match TransportState.ofCode i.tsForceVal with
    | none => s
    | some t => s.setTs t
  else s

end Sys2Proof.Machine
end

