-- ==== Sys2Proof/Machine/Transport.lean ====
section
/-! DEFINITION. Layer 1, Bit Transport (spec/40_transport.md): the calls of `sendBits`, `readBits` and `rest`, and what
each does at the edge it awaits. -/

namespace Sys2Proof.Machine

/-- What the caller makes of a call that may return at once. -/
def Progress.andThen (p : Progress) (ret : WireFrame → State → State) : State :=
  match p with
  | .waits s => s
  | .returns x s => ret x s

/-- The call of `sendBits(v, n)`, `n >= 1`, for the callers `k` (R120). -/
def callSendBits (v : WireFrame) (n : Nat) (k : List Frame) (s : State) : State :=
  (s.setTs .tx).suspend (.sendBit v n 0) k

/-- `sendBits` at STB_RISE: bit `j` goes onto the data line (R72, R73, R120). -/
def sendBitEdge (v : WireFrame) (n j : Nat) (k : List Frame) (s : State) : Progress :=
  let s := s.writeData (v.getLsbD j)
  if j + 1 < n then .waits (s.suspend (.sendBit v n (j + 1)) k) else .returns 0#16 s

/-- The call of `readBits(n)`, `n >= 1` (R123). -/
def callReadBits (n : Nat) (k : List Frame) (s : State) : State :=
  (s.setTs .rx).suspend (.readBit n 0 0#16) k

/-- `readBits` at STB_FALL: `line_in` becomes bit `j` of the accumulator and is written back to `data` (R123). -/
def readBitEdge (n j : Nat) (r : WireFrame) (k : List Frame) (s : State) : Progress :=
  let r := setSample r j s.lineIn
  let s := s.writeData s.lineIn
  if j + 1 < n then .waits (s.suspend (.readBit n (j + 1) r) k) else .returns r s

/-- The call of `rest(c)` (R126, R129). -/
def callRest (c : Nat) (k : List Frame) (s : State) : Progress :=
  if c < 1 then .returns 0#16 s else .waits ((s.writeSen false).suspend (.restFirst c) k)

/-- The exit of `rest`: the strobe is enabled again, however the loop ended (R128). -/
def restExit (s : State) : Progress := .returns 0#16 (s.writeSen true)

/-- The loop of `rest(c)` at iteration `i`: the check of `ts` before the additional cycle (R126, R127). -/
def restLoopFrom (c i : Nat) (k : List Frame) (s : State) : Progress :=
  if i ≤ c - 1 then
    if s.ts ≠ .rest then restExit s else .waits (s.suspend (.restLoop c i) k)
  else restExit s

/-- `rest` at its first CLK_RISE (R126). -/
def restFirstEdge (c : Nat) (k : List Frame) (s : State) : Progress :=
  restLoopFrom c 1 k ((s.setTs .rest).writeData false)

/-- `rest` at the CLK_RISE of iteration `i` (R126). -/
def restLoopEdge (c i : Nat) (k : List Frame) (s : State) : Progress := restLoopFrom c (i + 1) k s

end Sys2Proof.Machine
end

