-- ==== Sys2Proof/Machine/Framing.lean ====
section
/-! DEFINITION. Layer 2, Command Framing (spec/41_framing.md): the five framing operations, as calls for the callers
`k`, and what they do when a call of theirs returns. -/

namespace Sys2Proof.Machine

/-! ### Transactions: a code and what follows it, no width check (R91, R111) -/

/-- A code alone: 6 bits (R111). -/
def commandTransaction (c : Code) (k : List Frame) (s : State) : State :=
  callSendBits (c.setWidth 16) Config.cmdBits k s

/-- A code and a write frame: 6 and 16 bits (R103, R111). -/
def writeTransaction (c : Code) (f : WireFrame) (k : List Frame) (s : State) : State :=
  callSendBits (c.setWidth 16) Config.cmdBits (.sendFrame f :: k) s

/-- A code and a read frame: 6 bits, then 16 samples (R104, R111). -/
def readTransaction (c : Code) (p : Payload) (k : List Frame) (s : State) : State :=
  callSendBits (c.setWidth 16) Config.cmdBits (.readFrame p :: k) s

/-- A code and a timed rest of `n` clock cycles (R111, R145, R146). -/
def timedTransaction (c : Code) (n : Nat) (k : List Frame) (s : State) : State :=
  callSendBits (c.setWidth 16) Config.cmdBits (.timedRest n :: k) s

/-! ### The framing operations (R139 to R144) -/

/-- `sendCommand(cmd)` (R142). -/
def callSendCommand (c : Cmd) (k : List Frame) (s : State) : State :=
  if cmdTooWide c then s.raise .cmdWidth (infoOfCmd c)
  else commandTransaction (c.setWidth 6) k s

/-- `sendCommandAndData(cmd, d)` (R140): the code is checked before the word (R139). -/
def callSendCommandAndData (c : Cmd) (d : Arg) (k : List Frame) (s : State) : State :=
  if cmdTooWide c then s.raise .cmdWidth (infoOfCmd c)
  else if wordTooWide d then s.raise .dataWidth (infoOfArg d)
  else writeTransaction (c.setWidth 6) (writeFrame d) k s

/-- `sendCommandAndByteData(cmd, d)` (R141). -/
def callSendCommandAndByteData (c : Cmd) (d : Arg) (k : List Frame) (s : State) : State :=
  if cmdTooWide c then s.raise .cmdWidth (infoOfCmd c)
  else if byteTooWide d then s.raise .byteWidth (infoOfArg d)
  else writeTransaction (c.setWidth 6) (writeFrame d) k s

/-- `sendCommandAndReadData(cmd)` (R143). -/
def callSendCommandAndReadData (c : Cmd) (k : List Frame) (s : State) : State :=
  if cmdTooWide c then s.raise .cmdWidth (infoOfCmd c)
  else readTransaction (c.setWidth 6) .word k s

/-- `sendCommandAndReadByteData(cmd)` (R144). -/
def callSendCommandAndReadByteData (c : Cmd) (k : List Frame) (s : State) : State :=
  if cmdTooWide c then s.raise .cmdWidth (infoOfCmd c)
  else readTransaction (c.setWidth 6) .byte k s

/-- The code has been sent; the write frame follows (R140, R141). -/
def sendFrameNext (f : WireFrame) (k : List Frame) (s : State) : State := callSendBits f Config.frameBits k s

/-- The code has been sent; the read follows (R143, R144). -/
def readFrameNext (p : Payload) (k : List Frame) (s : State) : State := callReadBits Config.frameBits (.checkFrame p :: k) s

/-- The frame `f` has been read: the framing check, then the payload (R143, R144). -/
def checkFrameNext (p : Payload) (f : WireFrame) (s : State) : Progress :=
  if badFraming f then .waits (s.raise .frame (infoOfFrame f)) else .returns (payloadOf p f) s

end Sys2Proof.Machine
end

