-- ==== Sys2Proof/Machine/Verbs.lean ====
section
/-! DEFINITION. Layer 3, Command Set (spec/42_command_set.md): the label wrapper and the ten verbs, as calls for the
callers `k`. -/

namespace Sys2Proof.Machine

/-- The wrapper of a verb (R161): the label process is forked, and the body runs as the protocol branch. -/
def callVerb (v : CommandLabel) (body : List Frame → State → State) (k : List Frame) (s : State) : State :=
  body (.join :: k) (s.setLabelProc (.waiting v))

/-- The label process at an instant: at CLK_RISE it publishes its label and ends (R161). -/
def State.runLabel (e : Events) (s : State) : State :=
  match s.labelProc with
  | .waiting v => if e.clkRise then (s.setLabel v).setLabelProc .finished else s
  | .idle => s
  | .finished => s

/-- The protocol branch has ended with `x`: the verb returns when the label process has finished too (R70, R161). -/
def joinNext (x : WireFrame) (k : List Frame) (s : State) : Progress :=
  match s.labelProc with
  | .finished => .returns x (s.setLabelProc .idle)
  | .idle => .waits (s.suspend (.joining x) k)
  | .waiting _ => .waits (s.suspend (.joining x) k)

/-- The code of a verb as an 8-bit command operand, its `X` bits 0 (R90, R91). -/
def CommandCode.asCmd (c : CommandCode) : Cmd := c.value.setWidth 8

/-- LoadConfig(d) (R162). -/
def callLoadConfig (d : Arg) (k : List Frame) (s : State) : State :=
  callVerb .loadConfig (callSendCommandAndData (CommandCode.asCmd .loadConfiguration) d) k s

/-- LoadProgram(d) (R163). -/
def callLoadProgram (d : Arg) (k : List Frame) (s : State) : State :=
  callVerb .loadProgram (callSendCommandAndData (CommandCode.asCmd .loadDataForProgramMemory) d) k s

/-- LoadData(d) (R164). -/
def callLoadData (d : Arg) (k : List Frame) (s : State) : State :=
  callVerb .loadData (callSendCommandAndByteData (CommandCode.asCmd .loadDataForDataMemory) d) k s

/-- IncrementAddress() (R165). -/
def callIncrementAddress (k : List Frame) (s : State) : State :=
  callVerb .incrementAddress (callSendCommand (CommandCode.asCmd .incrementAddress)) k s

/-- EndProgramming() (R166). -/
def callEndProgramming (k : List Frame) (s : State) : State :=
  callVerb .endProgramming (callSendCommand (CommandCode.asCmd .endProgramming)) k s

/-- ReadProgram() (R167). -/
def callReadProgram (k : List Frame) (s : State) : State :=
  callVerb .readProgram (callSendCommandAndReadData (CommandCode.asCmd .readDataFromProgramMemory)) k s

/-- ReadData() (R168). -/
def callReadData (k : List Frame) (s : State) : State :=
  callVerb .readData (callSendCommandAndReadByteData (CommandCode.asCmd .readDataFromDataMemory)) k s

/-- A command followed by a timed rest, the body of BeginProgram, EraseProgram and EraseData (R169 to R171). -/
def callCommandThenRest (c : Cmd) (n : Nat) (k : List Frame) (s : State) : State :=
  callSendCommand c (.timedRest n :: k) s

/-- BeginProgram() (R169). -/
def callBeginProgram (k : List Frame) (s : State) : State :=
  callVerb .beginProgram
    (callCommandThenRest (CommandCode.asCmd .beginProgrammingInternallyTimed) Config.tprogCycles) k s

/-- EraseProgram() (R170). -/
def callEraseProgram (k : List Frame) (s : State) : State :=
  callVerb .eraseProgram (callCommandThenRest (CommandCode.asCmd .bulkEraseProgramMemory) Config.teraseCycles) k s

/-- EraseData() (R171). -/
def callEraseData (k : List Frame) (s : State) : State :=
  callVerb .eraseData (callCommandThenRest (CommandCode.asCmd .bulkEraseDataMemory) Config.teraseCycles) k s

end Sys2Proof.Machine
end

