-- ==== Sys2Proof/Machine/Sequencer.lean ====
section
/-! DEFINITION. Layer 4, Device Sequences (spec/43_sequences.md): the calls of the nine sequences, for the callers `k`,
what `start` and `shutdown` do at each clock edge they await, and what a sequence does when a call of its returns. -/

namespace Sys2Proof.Machine

/-! ### start and shutdown (R190, R191) -/

/-- The call of `start()` (R190). -/
def callStart (k : List Frame) (s : State) : State :=
  ((((s.writePm false).writePwr false).writeData false).writeSen false).suspend .startPm k

/-- `start()` at its first CLK_RISE (R190). -/
def startPmEdge (k : List Frame) (s : State) : State :=
  (((s.writePm true).setTs .rest).setLabel .none).suspend .startPwr k

/-- `start()` at its second CLK_RISE (R190). -/
def startPwrEdge (k : List Frame) (s : State) : State := (s.writePwr true).suspend .startSen k

/-- `start()` at its third CLK_RISE: it returns (R190, R194). -/
def startSenEdge (s : State) : State := (s.writeSen true).setSeq .running

/-- The call of `shutdown()` (R191, R194). -/
def callShutdown (k : List Frame) (s : State) : State := (s.setSeq .shuttingDown).suspend .shutdownData k

/-- `shutdown()` at its first CLK_RISE (R191). -/
def shutdownDataEdge (k : List Frame) (s : State) : State :=
  ((((s.setTs .rest).setLabel .none).writeData false).writeSen false).suspend .shutdownPm k

/-- `shutdown()` at its second CLK_RISE (R191). -/
def shutdownPmEdge (k : List Frame) (s : State) : State := (s.writePm false).suspend .shutdownPwr k

/-- `shutdown()` at its third CLK_RISE (R191). -/
def shutdownPwrEdge (k : List Frame) (s : State) : State := (s.writePwr false).suspend .shutdownEnd k

/-- `shutdown()` at its last CLK_RISE: it returns (R191, R194). -/
def shutdownEndEdge (s : State) : State := s.setSeq .uninitialized

/-! ### reset (R192) -/

/-- The call of `reset()` (R192). -/
def callReset (k : List Frame) (s : State) : State := callShutdown (.resetAfterShutdown :: k) s

/-! ### programCycle (R193) -/

/-- The call of `programCycle(d)` (R193). -/
def callProgramCycle (d : Arg) (k : List Frame) (s : State) : State := callLoadProgram d (.programAfterLoad d :: k) s

/-- The word read back differs from the word programmed, on all 14 bits (R193). -/
def readBackDiffers (d : Arg) (w : Word14) : Bool := w.setWidth 16 != d

/-- The protocol branch of a verb has ended with `x`. If the verb is the read-back of `programCycle` and the word differs,
FAULTY_WRITE is raised here: at the read's last sample, published label or not (R174, R193, R250; DEDUCED, assumption log
18). Otherwise the branch is at the join (R161). -/
def branchEnds (x : WireFrame) (k : List Frame) (s : State) : Progress :=
  match k with
  | .programAfterRead d :: _ =>
    if readBackDiffers d (x.setWidth 14) then .waits (s.raise .faultyWrite (infoOfMismatch d (x.setWidth 14)))
    else joinNext x k s
  | _ => joinNext x k s

/-- ReadProgram has returned the word `w`: the comparison, then IncrementAddress (R193). A word that differs has faulted
before, at the last sample (`branchEnds`). -/
def programVerify (d : Arg) (w : Word14) (k : List Frame) (s : State) : State :=
  if readBackDiffers d w then s.raise .faultyWrite (infoOfMismatch d w)
  else callIncrementAddress (.programAfterIncrement d w :: k) s

/-! ### readOSCCAL (R196) -/

/-- The call of `readOSCCAL()` (R196). -/
def callReadOsccal (k : List Frame) (s : State) : State := callReset (.osccalAfterReset :: k) s

/-- The loop of `readOSCCAL`: iteration `i` of the IncrementAddress verbs, or the read after the last (R196). -/
def osccalLoop (i : Nat) (k : List Frame) (s : State) : State :=
  if i ≤ Config.osccalIncrements then callIncrementAddress (.osccalAfterIncrement i :: k) s
  else callReadProgram (.osccalAfterRead :: k) s

/-- The OSCCAL word `w` has been read: the optional sanity check, then the cache (R5, R196). -/
def osccalStore (w : Word14) (s : State) : Progress :=
  if s.params.osccalCheck && !Config.osccalValid w then .waits (s.raise .invalidOsccal (infoOfWord w))
  else .returns 0#16 (s.setCache { s.cache with osccal := w, osccalValid := true })

/-! ### readIDAndBandGap (R197) -/

/-- The call of `readIDAndBandGap()` (R197). -/
def callReadIdBandgap (k : List Frame) (s : State) : State := callReset (.idAfterReset :: k) s

/-- The skip loop of `readIDAndBandGap` at iteration `i`, or the band-gap read after the last (R197). -/
def idSkipLoop (i : Nat) (v : FiveWords) (k : List Frame) (s : State) : State :=
  if i ≤ Config.idSkip then callIncrementAddress (.idAfterSkip i v :: k) s
  else callReadProgram (.idAfterBandgap v :: k) s

/-- The ID loop of `readIDAndBandGap` at iteration `n`, or the skip loop after the last (R197). -/
def idReadLoop (n : Nat) (v : FiveWords) (k : List Frame) (s : State) : State :=
  if n < Config.idWords then callReadProgram (.idAfterRead n v :: k) s else idSkipLoop 1 v k s

/-- All five words have been read: the cache takes them together (R197, D23). -/
def idStore (v : FiveWords) (s : State) : State :=
  s.setCache { s.cache with
    id0 := v.v0, id1 := v.v1, id2 := v.v2, id3 := v.v3, bandgap := v.v4, idValid := true, bandgapValid := true }

/-! ### bulkEraseDevice, cleanDevice, session (R198, R199, R204) -/

/-- The call of `bulkEraseDevice()`: the preconditions in the order OSCCAL, ID, BandGap (R198). -/
def callBulkEraseDevice (k : List Frame) (s : State) : State :=
  if !s.cache.osccalValid then s.raise .precondition infoOsccalMissing
  else if !s.cache.idValid then s.raise .precondition infoIdMissing
  else if !s.cache.bandgapValid then s.raise .precondition infoBandgapMissing
  else callEraseProgram (.bulkAfterProgram :: k) s

/-- The call of `cleanDevice()` (R199). -/
def callCleanDevice (k : List Frame) (s : State) : State := callReadOsccal (.cleanAfterOsccal :: k) s

/-- The call of `session()`: the cache is cleared first (R204). -/
def callSession (k : List Frame) (s : State) : State :=
  callCleanDevice (.sessionAfterClean :: k) (s.setCache IdentityCache.empty)

end Sys2Proof.Machine
end

