-- ==== Sys2Proof/Machine/Process.lean ====
section
/-! DEFINITION. The main process: what a return does in the calling operations (R9, R21), and what an edge instant does
to a suspended process (R67). -/

namespace Sys2Proof.Machine

/-- An operation returns `x` to the calling operations, innermost first. Each goes on at the point after its call, in
the same instant, until it makes a call that awaits, raises a fault, or returns in turn (R9, R21, R68). With no caller
left the main process has ended (R223). -/
def returnTo : List Frame → WireFrame → State → State
  | [], _, s => s.complete
  | .sendFrame f :: k, _, s => sendFrameNext f k s
  | .readFrame p :: k, _, s => readFrameNext p k s
  | .checkFrame p :: k, x, s => (checkFrameNext p x s).andThen (returnTo k)
  | .timedRest c :: k, _, s => (callRest c k s).andThen (returnTo k)
  | .join :: k, x, s => (branchEnds x k s).andThen (returnTo k)
  | .resetAfterShutdown :: k, _, s => callStart (.resetAfterStart :: k) s
  | .resetAfterStart :: k, _, s => returnTo k 0#16 s
  | .programAfterLoad d :: k, _, s => callBeginProgram (.programAfterBegin d :: k) s
  | .programAfterBegin d :: k, _, s => callReadProgram (.programAfterRead d :: k) s
  | .programAfterRead d :: k, x, s => programVerify d (x.setWidth 14) k s
  | .programAfterIncrement _ _ :: k, _, s => returnTo k 0#16 s
  | .osccalAfterReset :: k, _, s => osccalLoop 1 k s
  | .osccalAfterIncrement i :: k, _, s => osccalLoop (i + 1) k s
  | .osccalAfterRead :: k, x, s => (osccalStore (x.setWidth 14) s).andThen (returnTo k)
  | .idAfterReset :: k, _, s => callLoadConfig 0#16 (.idAfterConfig :: k) s
  | .idAfterConfig :: k, _, s => idReadLoop 0 FiveWords.empty k s
  | .idAfterRead n v :: k, x, s => callIncrementAddress (.idAfterIncrement n (v.set n (x.setWidth 14)) :: k) s
  | .idAfterIncrement n v :: k, _, s => idReadLoop (n + 1) v k s
  | .idAfterSkip i v :: k, _, s => idSkipLoop (i + 1) v k s
  | .idAfterBandgap v :: k, x, s => returnTo k 0#16 (idStore (v.set 4 (x.setWidth 14)) s)
  | .bulkAfterProgram :: k, _, s => callEraseData (.bulkAfterData :: k) s
  | .bulkAfterData :: k, _, s => returnTo k 0#16 s
  | .cleanAfterOsccal :: k, _, s => callReadIdBandgap (.cleanAfterId :: k) s
  | .cleanAfterId :: k, _, s => callBulkEraseDevice (.cleanAfterBulk :: k) s
  | .cleanAfterBulk :: k, _, s => returnTo k 0#16 s
  | .sessionAfterClean :: k, _, s => callShutdown (.sessionAfterShutdown :: k) s
  | .sessionAfterShutdown :: k, _, s => returnTo k 0#16 s
  | .writeResult :: k, x, s => returnTo k x (s.setResult (x.setWidth 14))

/-- The event a suspended process awaits has come (R67), or the join of its verb is complete (R70). The two points at
which a process is about to make a call await nothing. -/
def Point.released (p : Point) (e : Events) (s : State) : Bool :=
  match p with
  | .dispatch => false
  | .transact _ => false
  | .sendBit _ _ _ => e.stbRise
  | .readBit _ _ _ => e.stbFall
  | .restFirst _ => e.clkRise
  | .restLoop _ _ => e.clkRise
  | .startPm => e.clkRise
  | .startPwr => e.clkRise
  | .startSen => e.clkRise
  | .shutdownData => e.clkRise
  | .shutdownPm => e.clkRise
  | .shutdownPwr => e.clkRise
  | .shutdownEnd => e.clkRise
  | .joining _ => s.labelProc == .finished

/-- A released process goes on from its `await` (R68). -/
def Point.goOn (p : Point) (k : List Frame) (s : State) : State :=
  match p with
  | .dispatch => s
  | .transact _ => s
  | .sendBit v n j => (sendBitEdge v n j k s).andThen (returnTo k)
  | .readBit n j r => (readBitEdge n j r k s).andThen (returnTo k)
  | .restFirst c => (restFirstEdge c k s).andThen (returnTo k)
  | .restLoop c i => (restLoopEdge c i k s).andThen (returnTo k)
  | .startPm => startPmEdge k s
  | .startPwr => startPwrEdge k s
  | .startSen => returnTo k 0#16 (startSenEdge s)
  | .shutdownData => shutdownDataEdge k s
  | .shutdownPm => shutdownPmEdge k s
  | .shutdownPwr => shutdownPwrEdge k s
  | .shutdownEnd => returnTo k 0#16 (shutdownEndEdge s)
  | .joining x => (joinNext x k s).andThen (returnTo k)

/-- A suspended process at an instant: it goes on if it is released, else it stays where it is (R67). -/
def resume (e : Events) (p : Process) (s : State) : State :=
  if p.point.released e s then p.point.goOn p.callers s else s

end Sys2Proof.Machine
end

