-- ==== Sys2Proof/Machine/FramingRequests.lean ====
section
/-! DEFINITION. The meanings of the Layer-2 requests, the SEND_CMD group: run bare, with no label (R106, R222). -/

namespace Sys2Proof.Machine

/-- SEND_CMD c (R142). -/
def execSendCmd (c : Cmd) (s : State) : Outcome := .next (callSendCommand c s.callers s)

/-- SEND_CMD_DATA c, d (R140). -/
def execSendCmdData (c : Cmd) (d : Arg) (s : State) : Outcome := .next (callSendCommandAndData c d s.callers s)

/-- SEND_CMD_BYTE c, d (R141). -/
def execSendCmdByte (c : Cmd) (d : Arg) (s : State) : Outcome := .next (callSendCommandAndByteData c d s.callers s)

/-- SEND_CMD_READ c (R143); the word is written to `result` (R222). -/
def execSendCmdRead (c : Cmd) (s : State) : Outcome := .next (callSendCommandAndReadData c (.writeResult :: s.callers) s)

/-- SEND_CMD_READ_BYTE c (R144); the byte is written to `result`, zero-extended (R222). -/
def execSendCmdReadByte (c : Cmd) (s : State) : Outcome :=
  .next (callSendCommandAndReadByteData c (.writeResult :: s.callers) s)

end Sys2Proof.Machine
end

