-- ==== Sys2Proof/Machine/SequenceRequests.lean ====
section
/-! DEFINITION. The meanings of the Layer-4 requests: the nine device sequences (R222). -/

namespace Sys2Proof.Machine

/-- START (R190). -/
def execStart (s : State) : Outcome := .next (callStart s.callers s)

/-- SHUTDOWN (R191). -/
def execShutdown (s : State) : Outcome := .next (callShutdown s.callers s)

/-- RESET (R192). -/
def execReset (s : State) : Outcome := .next (callReset s.callers s)

/-- PROGRAM_CYCLE d (R193). -/
def execProgramCycle (d : Arg) (s : State) : Outcome := .next (callProgramCycle d s.callers s)

/-- READ_OSCCAL (R196). -/
def execReadOsccal (s : State) : Outcome := .next (callReadOsccal s.callers s)

/-- READ_ID_BANDGAP (R197). -/
def execReadIdBandgap (s : State) : Outcome := .next (callReadIdBandgap s.callers s)

/-- BULK_ERASE_DEVICE (R198). -/
def execBulkEraseDevice (s : State) : Outcome := .next (callBulkEraseDevice s.callers s)

/-- CLEAN_DEVICE (R199). -/
def execCleanDevice (s : State) : Outcome := .next (callCleanDevice s.callers s)

/-- SESSION (R204). -/
def execSession (s : State) : Outcome := .next (callSession s.callers s)

end Sys2Proof.Machine
end

