-- ==== Sys2Proof/Machine/TransportRequests.lean ====
section
/-! DEFINITION. The meaning of the Layer-1 request: REST. A meaning is the call of its operation at the present
instant, for the calling operations of the main process. -/

namespace Sys2Proof.Machine

/-- REST n (R126, R129, R222). -/
def execRest (n : Arg) (s : State) : Outcome := .next ((callRest n.toNat s.callers s).andThen (returnTo s.callers))

end Sys2Proof.Machine
end

