-- ==== Sys2Proof/Machine/VerbRequests.lean ====
section
/-! DEFINITION. The meanings of the Layer-3 requests: the ten verbs, each in its label fork (R161, R222). -/

namespace Sys2Proof.Machine

/-- LOAD_CONFIG d (R162). -/
def execLoadConfig (d : Arg) (s : State) : Outcome := .next (callLoadConfig d s.callers s)

/-- LOAD_PROGRAM d (R163). -/
def execLoadProgram (d : Arg) (s : State) : Outcome := .next (callLoadProgram d s.callers s)

/-- LOAD_DATA d (R164). -/
def execLoadData (d : Arg) (s : State) : Outcome := .next (callLoadData d s.callers s)

/-- INCREMENT_ADDRESS (R165). -/
def execIncrementAddress (s : State) : Outcome := .next (callIncrementAddress s.callers s)

/-- END_PROGRAMMING (R166). -/
def execEndProgramming (s : State) : Outcome := .next (callEndProgramming s.callers s)

/-- READ_PROGRAM (R167); the word is written to `result` (R222). -/
def execReadProgram (s : State) : Outcome := .next (callReadProgram (.writeResult :: s.callers) s)

/-- READ_DATA (R168); the byte is written to `result`, zero-extended (R222). -/
def execReadData (s : State) : Outcome := .next (callReadData (.writeResult :: s.callers) s)

/-- BEGIN_PROGRAM (R169). -/
def execBeginProgram (s : State) : Outcome := .next (callBeginProgram s.callers s)

/-- ERASE_PROGRAM (R170). -/
def execEraseProgram (s : State) : Outcome := .next (callEraseProgram s.callers s)

/-- ERASE_DATA (R171). -/
def execEraseData (s : State) : Outcome := .next (callEraseData s.callers s)

end Sys2Proof.Machine
end

