-- ==== Sys2Proof/Machine/WireCommands.lean ====
section
/-! DEFINITION. The meanings of the eleven wire command codes: the bus transaction the engine performs with each, that
is the code with its `X` bits as given (R110), then what the table of R91 says follows it (assumption log 7). -/

namespace Sys2Proof.Machine

/-- LoadConfiguration: the code, then a word frame (R92). -/
def execWireLoadConfiguration (x : BitVec 2) (f : WireFrame) (s : State) : Outcome :=
  .next (writeTransaction (CommandCode.loadConfiguration.withX x) f s.callers s)

/-- LoadDataForProgramMemory: the code, then a word frame (R93). -/
def execWireLoadDataForProgramMemory (x : BitVec 2) (f : WireFrame) (s : State) : Outcome :=
  .next (writeTransaction (CommandCode.loadDataForProgramMemory.withX x) f s.callers s)

/-- IncrementAddress: the code alone (R94). -/
def execWireIncrementAddress (x : BitVec 2) (s : State) : Outcome :=
  .next (commandTransaction (CommandCode.incrementAddress.withX x) s.callers s)

/-- EndProgramming: the code alone (R95). -/
def execWireEndProgramming (s : State) : Outcome :=
  .next (commandTransaction CommandCode.endProgramming.value s.callers s)

/-- LoadDataForDataMemory: the code, then a byte frame (R96). -/
def execWireLoadDataForDataMemory (x : BitVec 2) (f : WireFrame) (s : State) : Outcome :=
  .next (writeTransaction (CommandCode.loadDataForDataMemory.withX x) f s.callers s)

/-- ReadDataFromProgramMemory: the code, then a read frame decoded as a word (R97). -/
def execWireReadDataFromProgramMemory (x : BitVec 2) (s : State) : Outcome :=
  .next (readTransaction (CommandCode.readDataFromProgramMemory.withX x) .word s.callers s)

/-- ReadDataFromDataMemory: the code, then a read frame decoded as a byte (R98). -/
def execWireReadDataFromDataMemory (x : BitVec 2) (s : State) : Outcome :=
  .next (readTransaction (CommandCode.readDataFromDataMemory.withX x) .byte s.callers s)

/-- BeginProgrammingInternallyTimed: the code, then `Tprog` (R99). -/
def execWireBeginProgrammingInternallyTimed (s : State) : Outcome :=
  .next (timedTransaction CommandCode.beginProgrammingInternallyTimed.value Config.tprogCycles s.callers s)

/-- BulkEraseProgramMemory: the code, then `Terase` (R100). -/
def execWireBulkEraseProgramMemory (x : BitVec 2) (s : State) : Outcome :=
  .next (timedTransaction (CommandCode.bulkEraseProgramMemory.withX x) Config.teraseCycles s.callers s)

/-- BulkEraseDataMemory: the code, then `Terase` (R101). -/
def execWireBulkEraseDataMemory (x : BitVec 2) (s : State) : Outcome :=
  .next (timedTransaction (CommandCode.bulkEraseDataMemory.withX x) Config.teraseCycles s.callers s)

/-- BeginProgrammingExternallyTimed: the code alone (R102; assumption log 8). -/
def execWireBeginProgrammingExternallyTimed (s : State) : Outcome :=
  .next (commandTransaction CommandCode.beginProgrammingExternallyTimed.value s.callers s)

end Sys2Proof.Machine
end

