-- ==== Sys2Proof/Machine/Dispatch.lean ====
section
/-! DEFINITION. The dispatch of an instruction to its meaning, one arm per constructor (R222). -/

namespace Sys2Proof.Machine

def exec (i : Instr) (s : State) : Host.Outcome State Fault Refusal :=
  match i with
  | .start => Sys2Proof.Machine.execStart s
  | .shutdown => Sys2Proof.Machine.execShutdown s
  | .reset => Sys2Proof.Machine.execReset s
  | .programCycle d => Sys2Proof.Machine.execProgramCycle d s
  | .readOsccal => Sys2Proof.Machine.execReadOsccal s
  | .readIdBandgap => Sys2Proof.Machine.execReadIdBandgap s
  | .bulkEraseDevice => Sys2Proof.Machine.execBulkEraseDevice s
  | .cleanDevice => Sys2Proof.Machine.execCleanDevice s
  | .session => Sys2Proof.Machine.execSession s
  | .loadConfig d => Sys2Proof.Machine.execLoadConfig d s
  | .loadProgram d => Sys2Proof.Machine.execLoadProgram d s
  | .loadData d => Sys2Proof.Machine.execLoadData d s
  | .incrementAddress => Sys2Proof.Machine.execIncrementAddress s
  | .endProgramming => Sys2Proof.Machine.execEndProgramming s
  | .readProgram => Sys2Proof.Machine.execReadProgram s
  | .readData => Sys2Proof.Machine.execReadData s
  | .beginProgram => Sys2Proof.Machine.execBeginProgram s
  | .eraseProgram => Sys2Proof.Machine.execEraseProgram s
  | .eraseData => Sys2Proof.Machine.execEraseData s
  | .sendCmd c => Sys2Proof.Machine.execSendCmd c s
  | .sendCmdData c d => Sys2Proof.Machine.execSendCmdData c d s
  | .sendCmdByte c d => Sys2Proof.Machine.execSendCmdByte c d s
  | .sendCmdRead c => Sys2Proof.Machine.execSendCmdRead c s
  | .sendCmdReadByte c => Sys2Proof.Machine.execSendCmdReadByte c s
  | .rest n => Sys2Proof.Machine.execRest n s
  | .wireLoadConfiguration x f => Sys2Proof.Machine.execWireLoadConfiguration x f s
  | .wireLoadDataForProgramMemory x f => Sys2Proof.Machine.execWireLoadDataForProgramMemory x f s
  | .wireIncrementAddress x => Sys2Proof.Machine.execWireIncrementAddress x s
  | .wireEndProgramming => Sys2Proof.Machine.execWireEndProgramming s
  | .wireLoadDataForDataMemory x f => Sys2Proof.Machine.execWireLoadDataForDataMemory x f s
  | .wireReadDataFromProgramMemory x => Sys2Proof.Machine.execWireReadDataFromProgramMemory x s
  | .wireReadDataFromDataMemory x => Sys2Proof.Machine.execWireReadDataFromDataMemory x s
  | .wireBeginProgrammingInternallyTimed => Sys2Proof.Machine.execWireBeginProgrammingInternallyTimed s
  | .wireBulkEraseProgramMemory x => Sys2Proof.Machine.execWireBulkEraseProgramMemory x s
  | .wireBulkEraseDataMemory x => Sys2Proof.Machine.execWireBulkEraseDataMemory x s
  | .wireBeginProgrammingExternallyTimed => Sys2Proof.Machine.execWireBeginProgrammingExternallyTimed s

end Sys2Proof.Machine
end

