-- ==== Sys2Proof/Machine/Instant.lean ====
section
/-! DEFINITION. The work of one edge instant, in the order of R65: reset, commit, levels, gate, force, acceptance,
processes, notification. -/

namespace Sys2Proof.Machine

/-- A state's continuation under an outcome: faults and refusals pass through. -/
def afterOutcome (o : Outcome) (f : State → State) : Outcome :=
  match o with
  | .next s => .next (f s)
  | .fault r => .fault r
  | .refused r => .refused r

/-! ### Acceptance (R221) -/

/-- A request word is illegal: `rsv` is not 0, or `op` is unassigned (R108). -/
def requestIllegal (q : RequestWord) : Bool :=
  requestRsv q != 0#3 || (requestOp q == 0#5 || (0x0A#5 ≤ requestOp q && requestOp q ≤ 0x0F#5))

/-- A request can be accepted at this instant (R221). -/
def acceptable (e : Events) (i : Input) (s : State) : Bool := e.clkRise && s.engine == .idle && i.reqValid

/-- `accept()` (R221): the word is recorded, `done` cleared; an illegal word raises ILLEGAL_REQUEST, any other makes the
engine Busy and starts the main process. -/
def acceptRequest (q : RequestWord) (s : State) : State :=
  let s := { s with req := q, done := false }
  if requestIllegal q then s.raise .illegalRequest q
  else { s with engine := .busy, main := some { point := .dispatch, callers := [] } }

/-- Step 6 of an instant (R65, R221). -/
def State.accept (e : Events) (i : Input) (s : State) : State :=
  if acceptable e i s then acceptRequest i.reqWord s else s

/-! ### Processes (R65 step 7, R68, R70) -/

/-- The main process at an instant. A process about to dispatch decodes `req` and calls the operation it names (R222);
one about to perform a transaction decodes it and performs it; a suspended one goes on if its event has come. -/
def runMain (e : Events) (s : State) : Outcome :=
  match s.main with
  | none => .next s
  | some { point := .dispatch, callers := _ } =>
    match decodeRequest s.req with
    | .ok i => exec i s
    | .error _ => .next (s.raise .illegalRequest s.req)
  | some { point := .transact w, callers := _ } =>
    match decodeTransaction w with
    | .ok i => exec i s
    | .error _ => .fault .illegalTransaction
  | some p => .next (resume e p s)

/-- The label process was suspended on CLK_RISE before the instant. -/
def LabelProcess.suspended (p : LabelProcess) : Bool :=
  match p with
  | .waiting _ => true
  | .idle => false
  | .finished => false

/-- The parent of a fork resumes in the instant its later branch ends (R70). -/
def State.resumeJoin (s : State) : State :=
  match s.main with
  | some { point := .joining x, callers := k } =>
    if s.labelProc == .finished then (joinNext x k s).andThen (returnTo k) else s
  | _ => s

/-- The work of a label process for `v` whose verb has faulted in this instant: a label whose edge has come at the same
instant is published, as it is in the other order of the processes (R68, R174; DEDUCED, assumption log 6). -/
def State.publishAtFault (e : Events) (v : CommandLabel) (s : State) : State := if e.clkRise then s.setLabel v else s

/-- What is left of the instant once the main process has run first: the label process, if it was suspended before the
instant, then the join (R68, R70). A label process that a fault has ended in this instant is at `idle` (R253). -/
def labelAfterMain (e : Events) (before : State) (s : State) : State :=
  match before.labelProc with
  | .idle => s
  | .finished => s
  | .waiting v => if s.labelProc == .idle then s.publishAtFault e v else (s.runLabel e).resumeJoin

/-- Step 7 of an instant, the processes in the order the environment chooses; every order gives the same state (R65, R68;
assumption log 6). -/
def runProcesses (e : Events) (i : Input) (s : State) : Outcome :=
  if i.mainFirst then afterOutcome (runMain e s) (labelAfterMain e s) else runMain e (s.runLabel e)

/-! ### The instant (R65) -/

/-- The event set of an instant, with the strobe events, for the state before it (R60, R61, R63). -/
def instantEvents (i : Input) (s : State) : Events := gateEvents (levelEvents s i) s.commit

/-- Steps 2 to 6 of an instant. -/
def beforeProcesses (i : Input) (s : State) : State :=
  ((((s.commit).setLevels i).gate (levelEvents s i)).force i).accept (instantEvents i s) i

/-- One edge instant with its input (R65). Where neither clock input changes there is no instant and nothing changes
(R60; assumption log 3). An instant with `rst` applies block reset and nothing else (R227, R280). -/
def instant (i : Input) (s : State) : Outcome :=
  if !(levelEvents s i).any then .next s
  else if i.rst then .next (s.blockReset.setLevels i)
  else afterOutcome (runProcesses (instantEvents i s) i (beforeProcesses i s)) State.notify

/-! ### Where the host places an instruction -/

/-- An input at which the clock rises and the host presents the request word `q`. -/
def requestInput (s : State) (q : RequestWord) : Input :=
  { clk := true, rawStb := s.rawStb, lineIn := false, rst := false, reqValid := true, reqWord := q,
    tsForceValid := false, tsForceVal := 0#2, mainFirst := false }

/-- An input at which the clock rises and nothing else happens. -/
def quietInput (s : State) : Input :=
  { clk := true, rawStb := s.rawStb, lineIn := false, rst := false, reqValid := false, reqWord := 0#32,
    tsForceValid := false, tsForceVal := 0#2, mainFirst := false }

/-- The request word `q` is what an idle engine accepts at the next instant: a clock rise. -/
def State.placeRequest (s : State) (q : RequestWord) : State :=
  { s with engine := .idle, main := none, labelProc := .idle, clk := false, script := requestInput s q :: s.script }

/-- The bus transaction `w` is what the main process performs at the next instant: a clock rise. -/
def State.placeTransaction (s : State) (w : TransactionWord) : State :=
  { s with engine := .busy, done := false, main := some { point := .transact w, callers := [] }, labelProc := .idle,
           clk := false, script := quietInput s :: s.script }

/-- The encoded instruction stands where the next step fetches. -/
def State.place (s : State) (w : Encoded) : State :=
  match w with
  | .request q => s.placeRequest q
  | .transaction t => s.placeTransaction t

end Sys2Proof.Machine
end

