-- ==== Sys2Proof/Machine/Step.lean ====
section
/-! DEFINITION. One step of the machine: one instant, with the input the environment supplies. -/

namespace Sys2Proof.Machine

/-- One step: the environment's next input is consumed and the instant it makes is run (R60, R65). -/
def step (s : State) : Host.Outcome State Fault Refusal := instant s.nextInput s.consume

/-- The state with an opcode-table row's bits placed where the next step fetches its instruction: on the request port
of an idle engine, or in the main process about to perform a transaction (assumption logs 2 and 7). -/
def State.withFetchWord (s : State) (nbits w : Nat) : State := s.place (encodedOfTable nbits w)

end Sys2Proof.Machine
end

