-- ==== Sys2Proof/Safety.lean ====
section
/-! DEFINITION. The terms claims are stated in: runs over given inputs, well-nested processes, the invariants a step
keeps, and the table of the faults a request can raise (R251). -/

namespace Sys2Proof.Machine

/-! ### Runs over given inputs -/

/-- The state with `i` as what the environment supplies next. -/
def State.feed (i : Input) (s : State) : State := { s with script := i :: s.script }

/-- The machine run over given inputs, one step each, until they are used up or it stops. -/
def runOn : List Input → State → Outcome
  | [], s => .next s
  | i :: is, s =>
    match step (s.feed i) with
    | .next t => runOn is t
    | .fault r => .fault r
    | .refused r => .refused r

/-- The input makes an edge instant at which no block reset is asserted (R60, R227). -/
def plainInstant (i : Input) (s : State) : Bool := (levelEvents s i).any && !i.rst

/-- No input of the list asserts block reset. -/
def noReset (is : List Input) : Bool := is.all (fun i => !i.rst)

/-- No input of the list forces TransportState. -/
def noForce (is : List Input) : Bool := is.all (fun i => !i.tsForceValid)

/-- How often the clock rises over the inputs, from the level `c`. -/
def clockRises (c : Bool) : List Input → Nat
  | [] => 0
  | i :: is => (if !c && i.clk then 1 else 0) + clockRises i.clk is

/-- The inputs bring the `n`-th rise of the clock, from the level `c`, with their last (R60). -/
def endsAtRise (c : Bool) (n : Nat) (is : List Input) : Prop :=
  clockRises c is = n ∧ clockRises c is.dropLast + 1 = n

/-- The inputs follow the LOCKED schedule from the clock level `c`: at each instant both inputs change together (R62).
No reset and no force is asserted; every other port is free. -/
def lockedFrom (c : Bool) : List Input → Bool
  | [] => true
  | i :: is => i.clk == !c && i.rawStb == !c && !i.rst && !i.tsForceValid && lockedFrom (!c) is

/-- The inputs have the levels of the LOCKED schedule from the clock level `c`, without a reset; they may force
TransportState (R62, R226). -/
def lockedLevels (c : Bool) : List Input → Bool
  | [] => true
  | i :: is => i.clk == !c && i.rawStb == !c && !i.rst && lockedLevels (!c) is

/-- The target answers the read whose first sample is taken at the input `first` (counted from 0) with the frame `f`:
the samples come two inputs apart (R73, R124). -/
def answers (is : List Input) (first : Nat) (f : WireFrame) : Prop :=
  ∀ k, k < 16 → (is[first + 2 * k]?).map Input.lineIn = some (f.getLsbD k)

/-- The engine is in the instant at which a call is made with nothing waiting for its return: Busy, no label process,
the clock just risen (R221, R222). -/
def calling (s : State) : Prop :=
  s.engine = .busy ∧ s.done = false ∧ s.callers = [] ∧ s.labelProc = .idle ∧ s.clk = true

/-- The strobe is enabled and running with the clock (R62, R201, R282). -/
def strobing (s : State) : Prop :=
  s.sen = { cur := true, pend := none } ∧ s.rawStb = true

/-- The request has completed (R223). -/
def completed (s : State) : Prop := s.engine = .idle ∧ s.done = true ∧ s.main = none ∧ s.labelProc = .idle

/-- A fault has been taken (R253). -/
def faultedWith (code : ErrorCode) (info : BitVec 32) (s : State) : Prop :=
  s.engine = .faulted ∧ s.errCode = code ∧ s.errInfo = info ∧ s.main = none ∧ s.labelProc = .idle

/-- Both inputs are high, as at an even tick of the LOCKED schedule (R62). -/
def lockedHigh (s : State) : Prop := s.clk = true ∧ s.rawStb = true

/-- What a request leaves alone when it only moves bits: the lines `pm` and `pwr` but for a pending write, the sequence
state, the cache, the fault registers, `req` and the parameters. -/
def undisturbed (s u : State) : Prop :=
  u.pm = s.pm.commit ∧ u.pwr = s.pwr.commit ∧ u.seq = s.seq ∧ u.cache = s.cache ∧ u.errCode = s.errCode ∧
  u.errInfo = s.errInfo ∧ u.req = s.req ∧ u.params = s.params

/-! ### Single transactions (R91, R106, R111) -/

/-- What follows a command code in a transaction (R91, R111). -/
inductive Tail where
  | nothing
  | writes (f : WireFrame)
  | reads (p : Payload)
  | rests
  deriving DecidableEq, Repr

/-- A single transaction: the code on the wire, what follows it, and the label the instruction publishes, if it is a
verb. -/
structure Transfer where
  code : Code
  tail : Tail
  label : Option CommandLabel
  deriving DecidableEq, Repr

/-- The frame of a payload in numbers: the payload doubled (R103). -/
def doubled (d : Nat) : WireFrame := BitVec.ofNat 16 (2 * d)

/-- A verb with a 14-bit word (R162, R163). -/
def wordTransfer (c : Code) (d : Arg) (l : Option CommandLabel) : Option Transfer :=
  if d.toNat < 16384 then some { code := c, tail := .writes (doubled d.toNat), label := l } else none

/-- A verb with an 8-bit byte (R164). -/
def byteTransfer (c : Code) (d : Arg) (l : Option CommandLabel) : Option Transfer :=
  if d.toNat < 256 then some { code := c, tail := .writes (doubled d.toNat), label := l } else none

/-- A raw request's transaction, if its code is in range (R139). -/
def rawTransfer (c : Cmd) (t : Code → Option Transfer) : Option Transfer :=
  if c.toNat < 64 then t (BitVec.ofNat 6 c.toNat) else none

/-- A code with its `X` bits (R90, R110). -/
def codeWithX (v : Nat) (x : BitVec 2) : Code := BitVec.ofNat 6 (v + 16 * x.toNat)

/-- The single transaction an instruction is, with operands in range: the ten verbs, the SEND_CMD group and the eleven
wire command codes, written from the tables of R91 and R106. The other instructions, and operands out of range, are
none. -/
def transferOf : Instr → Option Transfer
  | .loadConfig d => wordTransfer 0x00 d (some .loadConfig)
  | .loadProgram d => wordTransfer 0x02 d (some .loadProgram)
  | .loadData d => byteTransfer 0x03 d (some .loadData)
  | .incrementAddress => some { code := 0x06, tail := .nothing, label := some .incrementAddress }
  | .endProgramming => some { code := 0x0A, tail := .nothing, label := some .endProgramming }
  | .readProgram => some { code := 0x04, tail := .reads .word, label := some .readProgram }
  | .readData => some { code := 0x05, tail := .reads .byte, label := some .readData }
  | .beginProgram => some { code := 0x08, tail := .rests, label := some .beginProgram }
  | .eraseProgram => some { code := 0x09, tail := .rests, label := some .eraseProgram }
  | .eraseData => some { code := 0x0B, tail := .rests, label := some .eraseData }
  | .sendCmd c => rawTransfer c (fun c => some { code := c, tail := .nothing, label := none })
  | .sendCmdData c d => rawTransfer c (fun c => wordTransfer c d none)
  | .sendCmdByte c d => rawTransfer c (fun c => byteTransfer c d none)
  | .sendCmdRead c => rawTransfer c (fun c => some { code := c, tail := .reads .word, label := none })
  | .sendCmdReadByte c => rawTransfer c (fun c => some { code := c, tail := .reads .byte, label := none })
  | .wireLoadConfiguration x f => some { code := codeWithX 0x00 x, tail := .writes f, label := none }
  | .wireLoadDataForProgramMemory x f => some { code := codeWithX 0x02 x, tail := .writes f, label := none }
  | .wireIncrementAddress x => some { code := codeWithX 0x06 x, tail := .nothing, label := none }
  | .wireEndProgramming => some { code := 0x0A, tail := .nothing, label := none }
  | .wireLoadDataForDataMemory x f => some { code := codeWithX 0x03 x, tail := .writes f, label := none }
  | .wireReadDataFromProgramMemory x => some { code := codeWithX 0x04 x, tail := .reads .word, label := none }
  | .wireReadDataFromDataMemory x => some { code := codeWithX 0x05 x, tail := .reads .byte, label := none }
  | .wireBeginProgrammingInternallyTimed => some { code := 0x08, tail := .rests, label := none }
  | .wireBulkEraseProgramMemory x => some { code := codeWithX 0x09 x, tail := .rests, label := none }
  | .wireBulkEraseDataMemory x => some { code := codeWithX 0x0B x, tail := .rests, label := none }
  | .wireBeginProgrammingExternallyTimed => some { code := 0x18, tail := .nothing, label := none }
  | .start => none
  | .shutdown => none
  | .reset => none
  | .programCycle _ => none
  | .readOsccal => none
  | .readIdBandgap => none
  | .bulkEraseDevice => none
  | .cleanDevice => none
  | .session => none
  | .rest _ => none

/-- The value a read returns, in numbers: bits 14:1 of the frame for a word, bits 8:1 for a byte (R104). -/
def readValue (p : Payload) (f : WireFrame) : Word14 :=
  match p with
  | .word => BitVec.ofNat 14 (f.toNat / 2 % 16384)
  | .byte => BitVec.ofNat 14 (f.toNat / 2 % 256)

/-- The engine has written `b` to `data` in the last of these inputs (R120). -/
def writesBit (is : List Input) (t : State) (b : Bool) : Prop :=
  ∃ u, runOn is t = .next u ∧ u.data.pend = some b

/-- The bits of `v` go onto the data line least-significant bit first, bit `k` by the input number `first + 2 * k`
(counted from 1), one bit at every second input (R72, R73, R120, R121). -/
def sendsBits (is : List Input) (t : State) (v : WireFrame) (n first : Nat) : Prop :=
  ∀ k, k < n → writesBit (is.take (first + 2 * k)) t (v.getLsbD k)

/-- Several 6-bit codes go onto the data line, each with the number of the input that brings its first bit. -/
def sendsCodes (is : List Input) (t : State) (l : List (Code × Nat)) : Prop :=
  ∀ p ∈ l, sendsBits is t (p.1.setWidth 16) 6 p.2

/-- A frame with start bit and stop bit 0 (R104). -/
def wellFramed (f : WireFrame) : Prop := f.getLsbD 0 = false ∧ f.getLsbD 15 = false

/-- The word of a frame, in numbers (R104). -/
def wordOf (f : WireFrame) : Word14 := BitVec.ofNat 14 (f.toNat / 2 % 16384)

/-! ### Instants -/

/-- The value a line has once what is pending has been committed (R63). -/
def Line.settled (l : Line) : Bool := l.pend.getD l.cur

/-- TransportState after step 5 of an instant (R226). -/
def forcedTs (i : Input) (s : State) : TransportState := (s.force i).ts

/-- What the force of one input makes of TransportState, in numbers: the value 3 is ignored (R226). -/
def forceOn (p : Params) (i : Input) (ts : TransportState) : TransportState :=
  if p.hasTsForce && i.tsForceValid then [TransportState.tx, .rx, .rest][i.tsForceVal.toNat]?.getD ts else ts

/-- TransportState after the forces of these inputs, from the levels `c` and `r` of the clock and the raw strobe, if
nothing else writes it. A force acts at an edge instant only (R60, R226). -/
def tsThrough (p : Params) (c r : Bool) (ts : TransportState) : List Input → TransportState
  | [] => ts
  | i :: is =>
    tsThrough p i.clk (rawLevel p i) (if i.clk != c || rawLevel p i != r then forceOn p i ts else ts) is

/-- The same TransportState is Rest at every clock rise of these inputs: the checks that a rest makes at them pass
(R127). -/
def restHolds (p : Params) (c r : Bool) (ts : TransportState) : List Input → Bool
  | [] => true
  | i :: is =>
    let now := if i.clk != c || rawLevel p i != r then forceOn p i ts else ts
    (c || !i.clk || now == .rest) && restHolds p i.clk (rawLevel p i) now is

/-- Steps 2 to 5 of the instant that the input `i` makes: what the processes find if no request is accepted (R65). -/
def arrived (i : Input) (s : State) : State :=
  (((({ s with instant := s.instant + 1 } : State).commit).setLevels i).gate (levelEvents s i)).force i

/-- Steps 2 to 6 of the instant that the input `i` makes when it brings a legal request: what `dispatch` finds (R65,
R221). -/
def accepted (i : Input) (s : State) : State :=
  { arrived i s with req := i.reqWord, done := false, engine := .busy, main := some { point := .dispatch, callers := [] } }

/-- A request is presented to an idle engine at a clock rise (R221). -/
def presented (i : Input) (s : State) : Bool := !s.clk && i.clk && s.engine == .idle && i.reqValid

/-- How often the raw strobe rises over the inputs, from the level `c`, under the FREE schedule. -/
def strobeRises (c : Bool) : List Input → Nat
  | [] => 0
  | i :: is => (if !c && i.rawStb then 1 else 0) + strobeRises i.rawStb is

/-- The inputs bring the `n`-th rise of the raw strobe, from the level `c`, with their last. -/
def endsAtStrobe (c : Bool) (n : Nat) (is : List Input) : Prop :=
  strobeRises c is = n ∧ strobeRises c is.dropLast + 1 = n

/-- The bits of the request word that its operation uses: all of `op`, `cmd` for the SEND_CMD group, `arg` where the
table of R106 has an operand there; the other bits are 0. -/
def usedBits (q : RequestWord) : Nat :=
  let op := q.toNat / 2 ^ 24
  op * 2 ^ 24 + (if [0x1A, 0x1B, 0x1C, 0x1D, 0x1E].contains op then q.toNat / 2 ^ 16 % 256 * 2 ^ 16 else 0) +
    (if [0x04, 0x10, 0x11, 0x12, 0x1B, 0x1C, 0x1F].contains op then q.toNat % 2 ^ 16 else 0)

/-- The request words that R108 calls illegal, in numbers. -/
def illegalWord (q : RequestWord) : Prop :=
  q.toNat / 2 ^ 29 ≠ 0 ∨ q.toNat / 2 ^ 24 % 32 ∈ [0x00, 0x0A, 0x0B, 0x0C, 0x0D, 0x0E, 0x0F]

/-- The lines and registers of `u` are those of `s` but for commits (R63): what an instant without work of a process
leaves. -/
def sameLines (s u : State) : Prop :=
  (u.pm = s.pm ∧ u.pwr = s.pwr ∧ u.data = s.data ∧ u.sen = s.sen) ∨
  (u.pm = s.pm.commit ∧ u.pwr = s.pwr.commit ∧ u.data = s.data.commit ∧ u.sen = s.sen.commit)

/-- The registers a power sequence leaves alone: the cache, `result`, the fault registers, `req`, the parameters. -/
def keepsRegisters (s u : State) : Prop :=
  u.cache = s.cache ∧ u.result = s.result ∧ u.errCode = s.errCode ∧ u.errInfo = s.errInfo ∧ u.req = s.req ∧
  u.params = s.params

/-- The lines after a completed START (R282). -/
def poweredUp (u : State) : Prop :=
  u.pm = { cur := true, pend := none } ∧ u.pwr = { cur := true, pend := none } ∧
  u.data = { cur := false, pend := none } ∧ u.sen = { cur := false, pend := some true } ∧ u.seq = .running

/-- The lines after a completed SHUTDOWN (R191). -/
def poweredDown (u : State) : Prop :=
  u.pm = { cur := false, pend := none } ∧ u.pwr = { cur := false, pend := none } ∧
  u.data = { cur := false, pend := none } ∧ u.sen = { cur := false, pend := none } ∧ u.seq = .uninitialized

/-- The current levels of `pm`, `pwr` and `sen` after the first `n` of these inputs. -/
def powerAfter (is : List Input) (t : State) (n : Nat) (pm pwr sen : Bool) : Prop :=
  ∃ u, runOn (is.take n) t = .next u ∧ u.pm.cur = pm ∧ u.pwr.cur = pwr ∧ u.sen.cur = sen

/-- The input, counted from 0 after the call of READ_ID_BANDGAP under LOCKED, at which its `n`-th read takes its first
sample: the four ID words, then the band gap (R197, R295). -/
def idReadAt (n : Nat) : Nat :=
  match n with
  | 0 => 70
  | 1 => 124
  | 2 => 178
  | 3 => 232
  | _ => 322

/-! ### Well-nested processes (R1, R21) -/

/-- The operations of the four layers, as callees. A framing operation that writes, and a command with its timed rest,
end with the return of the `sendBits` or the `rest` they call last. -/
inductive Callee where
  | sendBits
  | readBits
  | rest
  | writing
  | reading
  | timed
  | verb
  | start
  | shutdown
  | reset
  | program
  | osccal
  | identity
  | bulk
  | clean
  | session
  | request
  deriving DecidableEq, Repr

/-- The operation a suspended process is in. -/
def Point.callee : Point → Callee
  | .dispatch => .request
  | .transact _ => .request
  | .sendBit _ _ _ => .sendBits
  | .readBit _ _ _ => .readBits
  | .restFirst _ => .rest
  | .restLoop _ _ => .rest
  | .startPm => .start
  | .startPwr => .start
  | .startSen => .start
  | .shutdownData => .shutdown
  | .shutdownPm => .shutdown
  | .shutdownPwr => .shutdown
  | .shutdownEnd => .shutdown
  | .joining _ => .verb

/-- The operation a calling frame belongs to. -/
def Frame.callee : Frame → Callee
  | .sendFrame _ => .writing
  | .readFrame _ => .reading
  | .checkFrame _ => .reading
  | .timedRest _ => .timed
  | .join => .verb
  | .resetAfterShutdown => .reset
  | .resetAfterStart => .reset
  | .programAfterLoad _ => .program
  | .programAfterBegin _ => .program
  | .programAfterRead _ => .program
  | .programAfterIncrement _ _ => .program
  | .osccalAfterReset => .osccal
  | .osccalAfterIncrement _ => .osccal
  | .osccalAfterRead => .osccal
  | .idAfterReset => .identity
  | .idAfterConfig => .identity
  | .idAfterRead _ _ => .identity
  | .idAfterIncrement _ _ => .identity
  | .idAfterSkip _ _ => .identity
  | .idAfterBandgap _ => .identity
  | .bulkAfterProgram => .bulk
  | .bulkAfterData => .bulk
  | .cleanAfterOsccal => .clean
  | .cleanAfterId => .clean
  | .cleanAfterBulk => .clean
  | .sessionAfterClean => .session
  | .sessionAfterShutdown => .session
  | .writeResult => .request

/-- The operations whose return a frame may be waiting for: control flows downward only (R1). A verb waits for the last
operation of its body. -/
def Frame.waitsFor (f : Frame) (c : Callee) : Bool :=
  match f with
  | .sendFrame _ => c == .sendBits
  | .readFrame _ => c == .sendBits
  | .checkFrame _ => c == .readBits
  | .timedRest _ => c == .sendBits
  | .join => c == .sendBits || c == .writing || c == .reading || c == .timed || c == .rest
  | .resetAfterShutdown => c == .shutdown
  | .resetAfterStart => c == .start
  | .programAfterLoad _ => c == .verb
  | .programAfterBegin _ => c == .verb
  | .programAfterRead _ => c == .verb
  | .programAfterIncrement _ _ => c == .verb
  | .osccalAfterReset => c == .reset
  | .osccalAfterIncrement _ => c == .verb
  | .osccalAfterRead => c == .verb
  | .idAfterReset => c == .reset
  | .idAfterConfig => c == .verb
  | .idAfterRead _ _ => c == .verb
  | .idAfterIncrement _ _ => c == .verb
  | .idAfterSkip _ _ => c == .verb
  | .idAfterBandgap _ => c == .verb
  | .bulkAfterProgram => c == .verb
  | .bulkAfterData => c == .verb
  | .cleanAfterOsccal => c == .osccal
  | .cleanAfterId => c == .identity
  | .cleanAfterBulk => c == .bulk
  | .sessionAfterClean => c == .clean
  | .sessionAfterShutdown => c == .shutdown
  | .writeResult => c == .reading || c == .verb

/-- Each frame waits for the operation above it (R1, R9). -/
def nested : Callee → List Frame → Bool
  | _, [] => true
  | c, f :: k => f.waitsFor c && nested f.callee k

/-- The locals of a point are in their ranges (R41, R120, R123, R126). -/
def Point.inRange : Point → Bool
  | .dispatch => false
  | .transact _ => false
  | .sendBit _ n k => (n == 6 || n == 16) && decide (k < n)
  | .readBit n k r => n == 16 && decide (k < n) && (r >>> k) == 0#16
  | .restFirst c => decide (1 ≤ c)
  | .restLoop c i => decide (1 ≤ i) && decide (i ≤ c - 1)
  | .startPm => true
  | .startPwr => true
  | .startSen => true
  | .shutdownData => true
  | .shutdownPm => true
  | .shutdownPwr => true
  | .shutdownEnd => true
  | .joining _ => true

/-- The locals of a calling frame are in their ranges (R41, R193, R196, R197). -/
def Frame.inRange : Frame → Bool
  | .sendFrame f => wordFrameOk f
  | .readFrame _ => true
  | .checkFrame _ => true
  | .timedRest _ => true
  | .join => true
  | .resetAfterShutdown => true
  | .resetAfterStart => true
  | .programAfterLoad d => !wordTooWide d
  | .programAfterBegin d => !wordTooWide d
  | .programAfterRead d => !wordTooWide d
  | .programAfterIncrement d w => w.setWidth 16 == d
  | .osccalAfterReset => true
  | .osccalAfterIncrement i => decide (1 ≤ i) && decide (i ≤ Config.osccalIncrements)
  | .osccalAfterRead => true
  | .idAfterReset => true
  | .idAfterConfig => true
  | .idAfterRead n _ => decide (n < Config.idWords)
  | .idAfterIncrement n _ => decide (n < Config.idWords)
  | .idAfterSkip i _ => decide (1 ≤ i) && decide (i ≤ Config.idSkip)
  | .idAfterBandgap _ => true
  | .bulkAfterProgram => true
  | .bulkAfterData => true
  | .cleanAfterOsccal => true
  | .cleanAfterId => true
  | .cleanAfterBulk => true
  | .sessionAfterClean => true
  | .sessionAfterShutdown => true
  | .writeResult => true

/-- A verb is in progress: a join stands in the process (R161). -/
def Process.inVerb (p : Process) : Bool :=
  p.callers.contains .join || p.point.callee == .verb

/-- A read-back of `programCycle` that waits for its label has the word that was programmed: one that differs has
faulted at its last sample (R193, R250). -/
def Process.readBackOk (p : Process) : Bool :=
  match p.point, p.callers with
  | .joining x, .programAfterRead d :: _ => (x.setWidth 14).setWidth 16 == d
  | _, _ => true

/-- A suspended main process and the label process as R41, R69, R161 and R250 describe them. -/
def processOk (p : Process) (l : LabelProcess) (c : IdentityCache) : Bool :=
  p.readBackOk && p.point.inRange && p.callers.all Frame.inRange && nested p.point.callee p.callers &&
  (p.inVerb == (l != .idle)) && (p.point.callee != .verb || l.suspended) &&
  (!p.callers.contains .cleanAfterId || c.osccalValid)

/-- The identity cache as R39, R196 and R197 leave it: a word that is not valid is 0, and the ID words and the band gap
become valid together. -/
def cacheOk (c : IdentityCache) : Bool :=
  (c.osccalValid || c.osccal == 0#14) && (c.idValid == c.bandgapValid) &&
  (c.idValid || (c.id0 == 0#14 && c.id1 == 0#14 && c.id2 == 0#14 && c.id3 == 0#14 && c.bandgap == 0#14))

/-- The main process is live exactly while the engine is Busy, and is well nested; no label process outlives it (R34,
R41, R69). -/
def mainOk (s : State) : Bool :=
  match s.main with
  | none => s.engine != .busy && s.labelProc == .idle
  | some p => s.engine == .busy && processOk p s.labelProc s.cache

/-- THE INVARIANT of the engine: the processes and the cache are as their rules leave them; `done` only while Idle
(R25); an error code exactly while Faulted (R37, R253); `last_comp` is the composite of the lines (R225); a pulse is
open only while the raw strobe is high (R33, R61). -/
def invariant (s : State) : Bool :=
  mainOk s && cacheOk s.cache && (!s.done || s.engine == .idle) &&
  ((s.errCode != .none) == (s.engine == .faulted)) && s.lastComp == s.composite && (!s.gateOpen || s.rawStb)

/-! ### Which request can raise which fault (R251) -/

/-- The table of R251. The wire command codes are no requests; their reads can raise FRAME. -/
def possibleFaults : Instr → List ErrorCode
  | .start => []
  | .shutdown => []
  | .reset => []
  | .programCycle _ => [.dataWidth, .frame, .faultyWrite]
  | .readOsccal => [.frame, .invalidOsccal]
  | .readIdBandgap => [.frame]
  | .bulkEraseDevice => [.precondition]
  | .cleanDevice => [.frame, .invalidOsccal]
  | .session => [.frame, .invalidOsccal]
  | .loadConfig _ => [.dataWidth]
  | .loadProgram _ => [.dataWidth]
  | .loadData _ => [.byteWidth]
  | .incrementAddress => []
  | .endProgramming => []
  | .readProgram => [.frame]
  | .readData => [.frame]
  | .beginProgram => []
  | .eraseProgram => []
  | .eraseData => []
  | .sendCmd _ => [.cmdWidth]
  | .sendCmdData _ _ => [.cmdWidth, .dataWidth]
  | .sendCmdByte _ _ => [.cmdWidth, .byteWidth]
  | .sendCmdRead _ => [.cmdWidth, .frame]
  | .sendCmdReadByte _ => [.cmdWidth, .frame]
  | .rest _ => []
  | .wireLoadConfiguration _ _ => []
  | .wireLoadDataForProgramMemory _ _ => []
  | .wireIncrementAddress _ => []
  | .wireEndProgramming => []
  | .wireLoadDataForDataMemory _ _ => []
  | .wireReadDataFromProgramMemory _ => [.frame]
  | .wireReadDataFromDataMemory _ => [.frame]
  | .wireBeginProgrammingInternallyTimed => []
  | .wireBulkEraseProgramMemory _ => []
  | .wireBulkEraseDataMemory _ => []
  | .wireBeginProgrammingExternallyTimed => []

/-- The requests that write `result` (R36, R223). -/
def writesResult (i : Instr) : Bool :=
  match encode i with
  | .request q => [0x15, 0x16, 0x1D, 0x1E].contains ((q.toNat / 2 ^ 24) % 32)
  | .transaction _ => false

/-- The faults that can still be raised at or above a calling frame. -/
def Frame.faults : Frame → List ErrorCode
  | .readFrame _ => [.frame]
  | .checkFrame _ => [.frame]
  | .programAfterLoad _ => [.frame, .faultyWrite]
  | .programAfterBegin _ => [.frame, .faultyWrite]
  | .programAfterRead _ => [.frame, .faultyWrite]
  | .osccalAfterReset => [.frame, .invalidOsccal]
  | .osccalAfterIncrement _ => [.frame, .invalidOsccal]
  | .osccalAfterRead => [.frame, .invalidOsccal]
  | .idAfterReset => [.frame]
  | .idAfterConfig => [.frame]
  | .idAfterRead _ _ => [.frame]
  | .idAfterIncrement _ _ => [.frame]
  | .idAfterSkip _ _ => [.frame]
  | .idAfterBandgap _ => [.frame]
  | .cleanAfterOsccal => [.frame]
  | .sendFrame _ => []
  | .timedRest _ => []
  | .join => []
  | .resetAfterShutdown => []
  | .resetAfterStart => []
  | .programAfterIncrement _ _ => []
  | .bulkAfterProgram => []
  | .bulkAfterData => []
  | .cleanAfterId => []
  | .cleanAfterBulk => []
  | .sessionAfterClean => []
  | .sessionAfterShutdown => []
  | .writeResult => []

/-- The calling frames can raise no fault that the request's row of R251 lacks, and write `result` only for the
requests that do. -/
def callersFit (i : Instr) (k : List Frame) : Bool :=
  k.all (fun f => f.faults.all (fun e => (possibleFaults i).contains e)) &&
  (!k.contains .writeResult || writesResult i)

/-- The engine is doing what `req` asks for, or has stopped with a fault that `req` can raise (R35, R251). -/
def requestInvariant (s : State) : Bool :=
  match s.main with
  | some p =>
    match decodeRequest s.req with
    | .ok i => callersFit i p.callers
    | .error _ => false
  | none =>
    s.engine != .faulted ||
      (match decodeRequest s.req with
       | .ok i => (possibleFaults i).contains s.errCode
       | .error _ => s.errCode == .illegalRequest && s.errInfo == s.req)

end Sys2Proof.Machine
end

