-- ==== Sys2Proof/Certificates/Slice0/Obligations.lean ====
section
/-! DEFINITION. The statements for the provers. In the statements about an instruction's run, `s` is the state in which
`exec` makes the call (step 7 of an instant), `t.notify` is the state at the end of that instant (step 8), and the
inputs `is` are those of the instants after it. -/

section

open Sys2Proof Sys2Proof.Machine

/-! ### Encodings -/

/-- DECODE AND ENCODE AGREE: for every well-formed instruction, of both formats and with every operand, decoding its
encoding gives it back (R91, R103, R105, R106). The layout of a transaction is the model's (assumption log 9). -/
def Obligations.DecodeInvertsEncode : Prop :=
  ∀ i : Instr, i.wellFormed = true → decode (encode i) = .ok i

/-- The other direction for bus transactions: bits that decode are the encoding of the instruction they decode to, so no
bit of a transaction is ignored. The layout of a transaction is the model's (assumption log 9). -/
def Obligations.EncodeInvertsTransactionDecode : Prop :=
  ∀ (w : TransactionWord) (i : Instr), decode (.transaction w) = .ok i → i.wellFormed = true ∧ encode i = .transaction w

/-- A request word is rejected exactly when R108 calls it illegal, and a legal one decodes to the instruction whose
encoding is the word with the fields its operation does not use set to 0 (R105, R106, R108). -/
def Obligations.RequestDecode : Prop :=
  (∀ q : RequestWord, (∃ e, decodeRequest q = .error e) ↔ illegalWord q) ∧
  (∀ (q : RequestWord) (i : Instr), decodeRequest q = .ok i → encode i = .request (BitVec.ofNat 32 (usedBits q)))

/-- The table of R91 in numbers, the rule by which a six-bit word selects a code, and the 29 words that select none
(R91, R109). -/
def Obligations.CommandCodeTable : Prop :=
  (CommandCode.all.map (fun k => (k.value.toNat, k.mask.toNat)) =
    [(0x00, 0x0F), (0x02, 0x0F), (0x06, 0x0F), (0x0A, 0x3F), (0x03, 0x0F), (0x04, 0x0F), (0x05, 0x0F), (0x08, 0x3F),
     (0x18, 0x3F), (0x09, 0x0F), (0x0B, 0x0F)]) ∧
  (∀ (c : Code) (k : CommandCode), selectCode c = some k ↔ c &&& k.mask = k.value) ∧
  (∀ c : Code, selectCode c = none ↔ c.toNat ∈
    [0x01, 0x07, 0x0C, 0x0D, 0x0E, 0x0F, 0x11, 0x17, 0x1A, 0x1C, 0x1D, 0x1E, 0x1F, 0x21, 0x27, 0x28, 0x2A, 0x2C, 0x2D,
     0x2E, 0x2F, 0x31, 0x37, 0x38, 0x3A, 0x3C, 0x3D, 0x3E, 0x3F])

/-- Frames in numbers, both directions: a payload in range travels as its double with start and stop bit 0; a frame is
badly framed when bit 0 or bit 15 is 1; a word is bits 14:1 and a byte bits 8:1; and a payload written and read back is
itself (R103, R104). -/
def Obligations.FrameLayout : Prop :=
  (∀ d : Arg, d.toNat < 16384 → (writeFrame d).toNat = 2 * d.toNat ∧ badFraming (writeFrame d) = false ∧
    (payloadOf .word (writeFrame d)).toNat = d.toNat) ∧
  (∀ d : Arg, d.toNat < 256 → (writeFrame d).toNat = 2 * d.toNat ∧ byteFrameOk (writeFrame d) = true ∧
    (payloadOf .byte (writeFrame d)).toNat = d.toNat) ∧
  (∀ f : WireFrame, (badFraming f = true ↔ f.toNat % 2 = 1 ∨ 2 ^ 15 ≤ f.toNat) ∧
    (payloadOf .word f).toNat = f.toNat / 2 % 2 ^ 14 ∧ (payloadOf .byte f).toNat = f.toNat / 2 % 2 ^ 8)

/-- A few words written out from the tables of R91 and R106 decode to the instructions they stand for (R91, R105, R106,
R110). The layout of a transaction is the model's (assumption log 9). -/
def Obligations.SampleWordsDecode : Prop :=
  decode (.request 0x01000000) = .ok .start ∧
  decode (.request 0x04001234) = .ok (.programCycle 0x1234) ∧
  decode (.request 0x11003FFF) = .ok (.loadProgram 0x3FFF) ∧
  decode (.request 0x13FF1234) = .ok .incrementAddress ∧
  decode (.request 0x1B024000) = .ok (.sendCmdData 0x02 0x4000) ∧
  decode (.request 0x1E050000) = .ok (.sendCmdReadByte 0x05) ∧
  decode (.request 0x1F00FFFF) = .ok (.rest 0xFFFF) ∧
  decode (.transaction 0x246822) = .ok (.wireLoadDataForProgramMemory 2 0x2468) ∧
  decode (.transaction 0x00000A) = .ok .wireEndProgramming ∧
  decode (.transaction 0x000018) = .ok .wireBeginProgrammingExternallyTimed ∧
  decode (.transaction 0x00001A) = .error (.undefinedCode 0x1A) ∧
  decode (.request 0x20000000) = .error (.reservedBits 1) ∧
  decode (.request 0x0A000000) = .error (.unassignedOp 0x0A)

/-- The numbers of the enumerations, and that the status port shows every one of the five registers by its number (R22,
R23, R24, R34, R224, R250). -/
def Obligations.StatusCodes : Prop :=
  [TransportState.tx, .rx, .rest].map TransportState.code = [0, 1, 2] ∧
  [CommandLabel.none, .loadConfig, .loadProgram, .loadData, .incrementAddress, .endProgramming, .readProgram, .readData,
   .beginProgram, .eraseProgram, .eraseData].map CommandLabel.code = [0, 1, 2, 3, 4, 5, 6, 7, 8, 9, 10] ∧
  [SequenceState.uninitialized, .running, .shuttingDown].map SequenceState.code = [0, 1, 2] ∧
  [EngineState.idle, .busy, .faulted].map EngineState.code = [0, 1, 2] ∧
  [ErrorCode.none, .cmdWidth, .dataWidth, .byteWidth, .frame, .faultyWrite, .precondition, .invalidOsccal,
   .illegalRequest].map ErrorCode.code = [0, 1, 2, 3, 4, 5, 6, 7, 8] ∧
  ∀ s : State, s.status.ts = s.ts.code ∧ s.status.label = s.label.code ∧ s.status.seq = s.seq.code ∧
    s.status.engineState = s.engine.code ∧ s.status.errCode = s.errCode.code

/-! ### Reset and the time base -/

/-- The state after reset: the reset table of 10_state.md section 8 (R280). The levels of the inputs, the parameters, the
script and `comp_valid` are the model's choices (assumption logs 2, 4, 10 and 11) and are not spoken of. -/
def Obligations.ResetState : Prop :=
  State.reset.pm = { cur := false, pend := none } ∧ State.reset.pwr = { cur := false, pend := none } ∧
  State.reset.data = { cur := false, pend := none } ∧ State.reset.sen = { cur := false, pend := none } ∧
  State.reset.gateOpen = false ∧ State.reset.lastComp = 0 ∧
  State.reset.main = none ∧ State.reset.labelProc = .idle ∧
  State.reset.status =
    { engineState := 0, done := false, req := 0, result := 0, errCode := 0, errInfo := 0, ts := 2, label := 0, seq := 0,
      osccalValid := false, osccal := 0, idValid := false, id0 := 0, id1 := 0, id2 := 0, id3 := 0,
      bandgapValid := false, bandgap := 0 }

/-- Block reset, from every state: at an edge instant with `rst = 1` every piece of state takes its reset value, and
no commit, gate, force, acceptance, process or notification happens at it (R227, R280). That `comp_valid` is 0 at it is the
model's choice (assumption log 11). -/
def Obligations.BlockResetAppliesTable : Prop :=
  ∀ (s : State) (i : Input), (levelEvents s i).any = true → i.rst = true →
    ∃ t, step (s.feed i) = .next t ∧
      t.pm = { cur := false, pend := none } ∧ t.pwr = { cur := false, pend := none } ∧
      t.data = { cur := false, pend := none } ∧ t.sen = { cur := false, pend := none } ∧
      t.gateOpen = false ∧ t.lastComp = 0 ∧ t.compValid = false ∧ t.main = none ∧ t.labelProc = .idle ∧
      t.status =
        { engineState := 0, done := false, req := 0, result := 0, errCode := 0, errInfo := 0, ts := 2, label := 0,
          seq := 0, osccalValid := false, osccal := 0, idValid := false, id0 := 0, id1 := 0, id2 := 0, id3 := 0,
          bandgapValid := false, bandgap := 0 }

/-- Where neither clock input changes there is no instant and nothing of the engine changes (R60; assumption log 3). -/
def Obligations.NoEdgeNoChange : Prop :=
  ∀ (s : State) (i : Input), i.clk = s.clk → rawLevel s.params i = s.rawStb →
    step (s.feed i) = .next { s with instant := s.instant + 1 }

/-- At every edge instant the inputs take their new levels and the parameters stay (R65 step 3; that the levels are
tracked through a reset is assumption log 5, that the parameters stand in State assumption log 10, that under LOCKED the
raw strobe takes the clock's level assumption log 15). The script and the count of inputs consumed are the model's own
fields (assumption log 2). -/
def Obligations.InputsTracked : Prop :=
  ∀ (s t : State) (i : Input), (levelEvents s i).any = true → step (s.feed i) = .next t →
    t.clk = i.clk ∧ t.rawStb = rawLevel s.params i ∧ t.lineIn = i.lineIn ∧ t.params = s.params ∧ t.script = s.script ∧
    t.instant = s.instant + 1

/-- The strobe gate, from every state: what `gate_open` becomes and which strobe event the instant has, by the raw
strobe's edge, the committed `sen` and `gate_open` (R61). -/
def Obligations.StrobeGate : Prop :=
  ∀ (s t : State) (i : Input), plainInstant i s = true → step (s.feed i) = .next t →
    let rise := !s.rawStb && rawLevel s.params i
    let fall := s.rawStb && !rawLevel s.params i
    (instantEvents i s).stbRise = (rise && s.sen.settled && !s.gateOpen) ∧
    (instantEvents i s).stbFall = (fall && s.gateOpen) ∧
    t.gateOpen =
      if rise && s.sen.settled && !s.gateOpen then true else if fall && s.gateOpen then false else s.gateOpen

/-- Commit, from every state: after an instant every line holds the value that was pending before it, or its old value
if none was (R63). -/
def Obligations.CommitTakesPending : Prop :=
  ∀ (s t : State) (i : Input), plainInstant i s = true → step (s.feed i) = .next t →
    t.pm.cur = s.pm.settled ∧ t.pwr.cur = s.pwr.settled ∧ t.data.cur = s.data.settled ∧ t.sen.cur = s.sen.settled

/-- The composite notification, from every state: at the end of an instant `last_comp` is the composite of the current
lines, program-mode bit 3, power bit 2, data bit 1, gated strobe bit 0; a notification is sent exactly when it differs
from the one last reported, and it carries the new value (R74, R225). -/
def Obligations.NotificationOnChange : Prop :=
  ∀ (s t : State) (i : Input), plainInstant i s = true → step (s.feed i) = .next t →
    t.lastComp = BitVec.ofNat 4 (8 * t.pm.cur.toNat + 4 * t.pwr.cur.toNat + 2 * t.data.cur.toNat + t.gateOpen.toNat) ∧
    (t.compValid = true ↔ t.lastComp ≠ s.lastComp) ∧
    (t.compValid = true → t.comp = t.lastComp)

/-- The TransportState force, from every state and whatever else the instant does: with `HAS_TS_FORCE` and a value 0, 1
or 2 the instant is the one that finds `ts` at that value, and otherwise it is the one without a force (R226). -/
def Obligations.ForceActsInStepFive : Prop :=
  ∀ (s : State) (i : Input), (levelEvents s i).any = true →
    (∀ v : TransportState, s.params.hasTsForce = true → i.tsForceValid = true → i.tsForceVal = v.code →
      step (s.feed i) = step (({ s with ts := v } : State).feed { i with tsForceValid := false })) ∧
    (s.params.hasTsForce = false ∨ i.tsForceValid = false ∨ i.tsForceVal = 3 →
      step (s.feed i) = step (s.feed { i with tsForceValid := false }))

/-! ### A step runs the decoded instruction -/

/-- A STEP RUNS THE DECODED INSTRUCTION: when an idle engine is presented a legal request at a clock rise, the step is
`exec` of the decoded instruction at the state that steps 2 to 6 leave, and then the notification (R65, R221, R222). -/
def Obligations.StepRunsAcceptedRequest : Prop :=
  ∀ (s : State) (i : Input) (ins : Instr), i.rst = false → presented i s = true → s.labelProc = .idle →
    decodeRequest i.reqWord = .ok ins →
    step (s.feed i) = afterOutcome (exec ins (accepted i s)) State.notify

/-- The same for a bus transaction placed in the main process (assumption log 7), and the one fault of the model: bits
that are no transaction (assumption log 12). -/
def Obligations.StepRunsPlacedTransaction : Prop :=
  ∀ (s : State) (i : Input) (w : TransactionWord) (k : List Frame), plainInstant i s = true → s.engine = .busy →
    s.labelProc = .idle → s.main = some { point := .transact w, callers := k } →
    (∀ ins, decodeTransaction w = .ok ins →
      step (s.feed i) = afterOutcome (exec ins (arrived i s)) State.notify) ∧
    (∀ e, decodeTransaction w = .error e → step (s.feed i) = .fault .illegalTransaction)

/-- The instruction that the host's window places is the one the next step runs, called with nothing waiting for its
return, on the lines and registers the state had (assumption log 2). -/
def Obligations.FetchedWordRuns : Prop :=
  ∀ (s : State) (nbits w : Nat) (ins : Instr), decodeTableWord nbits w = some ins →
    ∃ u, step (s.withFetchWord nbits w) = afterOutcome (exec ins u) State.notify ∧ calling u ∧
      u.pm = s.pm.commit ∧ u.pwr = s.pwr.commit ∧ u.data = s.data.commit ∧ u.sen = s.sen.commit ∧ u.ts = s.ts ∧
      u.label = s.label ∧ u.seq = s.seq ∧ u.cache = s.cache ∧ u.result = s.result ∧ u.params = s.params

/-- `req` is 0 at reset, acceptance and nothing else writes it, and the host reads it (R35, R65, R221); and where no request is accepted an engine without a main
process and a label process stays as it is but for the commit, the gate, the force and the notification. -/
def Obligations.ReqWrittenOnlyAtAcceptance : Prop :=
  State.reset.req = 0 ∧ (∀ s : State, s.status.req = s.req) ∧
  ∀ (s t : State) (i : Input), plainInstant i s = true → step (s.feed i) = .next t →
    t.req = (if presented i s then i.reqWord else s.req) ∧
    (presented i s = false → s.main = none → s.labelProc = .idle →
      t = (arrived i s).notify)

/-- Accepting an illegal word raises ILLEGAL_REQUEST with the word as its information, in the instant of acceptance; no
line is written, no process starts, and no other register changes (R108, R221, R252). -/
def Obligations.IllegalRequestFaults : Prop :=
  ∀ (s : State) (i : Input), i.rst = false → presented i s = true → illegalWord i.reqWord →
    ∃ t, step (s.feed i) = .next t ∧ faultedWith .illegalRequest i.reqWord t ∧ t.req = i.reqWord ∧ t.done = false ∧
      t.pm = s.pm.commit ∧ t.pwr = s.pwr.commit ∧ t.data = s.data.commit ∧ t.sen = s.sen.commit ∧
      t.ts = forcedTs i s ∧ t.label = s.label ∧ t.seq = s.seq ∧ t.cache = s.cache ∧ t.result = s.result

/-- `done` is 0 at reset; it is set when a main process ends without a fault and cleared when a request is accepted (R25,
R223): after an instant it is 1 exactly when the engine is Idle and was Busy before, or accepted a request at this
instant that has ended already, or was Idle with `done` at 1. -/
def Obligations.DoneFlag : Prop :=
  State.reset.done = false ∧
  ∀ (s t : State) (i : Input), invariant s = true → plainInstant i s = true → step (s.feed i) = .next t →
    t.done = (t.engine == .idle && (s.engine == .busy || presented i s || s.done))

/-- Only the four reading requests write `result`, in the instant in which they complete (R36, R223). -/
def Obligations.ResultWriters : Prop :=
  ∀ (s t : State) (i : Input), invariant s = true → requestInvariant s = true → plainInstant i s = true →
    step (s.feed i) = .next t → t.result ≠ s.result →
    t.engine = .idle ∧ t.done = true ∧ t.req.toNat / 2 ^ 24 ∈ [0x15, 0x16, 0x1D, 0x1E]

/-! ### Layer 1 -/

/-- One instant of `sendBits(v, n)`, whoever called it: without a gated strobe rise it waits; at one, bit `k` goes onto
the data line, and the operation goes on to bit `k + 1`, or has ended (R67, R72, R73, R120). -/
def Obligations.SendBitsInstant : Prop :=
  ∀ (s : State) (i : Input) (v : WireFrame) (n k : Nat) (c : List Frame), plainInstant i s = true → s.engine = .busy →
    s.main = some { point := .sendBit v n k, callers := c } →
    ((instantEvents i s).stbRise = false →
      ∃ t, step (s.feed i) = .next t ∧ t.main = s.main ∧ t.data = s.data.commit ∧ t.sen = s.sen.commit ∧
        t.ts = forcedTs i s ∧ t.engine = .busy ∧ undisturbed s t) ∧
    ((instantEvents i s).stbRise = true → k + 1 < n →
      ∃ t, step (s.feed i) = .next t ∧ t.main = some { point := .sendBit v n (k + 1), callers := c } ∧
        t.data = { cur := s.data.settled, pend := some (v.getLsbD k) } ∧ t.sen = s.sen.commit ∧
        t.ts = forcedTs i s ∧ t.engine = .busy ∧ undisturbed s t) ∧
    ((instantEvents i s).stbRise = true → n ≤ k + 1 → c = [] →
      ∃ t, step (s.feed i) = .next t ∧ t.main = none ∧
        t.data = { cur := s.data.settled, pend := some (v.getLsbD k) } ∧ t.sen = s.sen.commit ∧
        t.ts = forcedTs i s ∧ t.engine = .idle ∧ t.done = true ∧ undisturbed s t)

/-- One instant of `readBits(n)`, whoever called it: without a gated strobe fall it waits; at one, `line_in` becomes bit
`k` of the accumulator and is written back to `data` (R66, R67, R73, R123). -/
def Obligations.ReadBitsInstant : Prop :=
  ∀ (s : State) (i : Input) (r : WireFrame) (n k : Nat) (c : List Frame), plainInstant i s = true → s.engine = .busy →
    s.main = some { point := .readBit n k r, callers := c } →
    ((instantEvents i s).stbFall = false →
      ∃ t, step (s.feed i) = .next t ∧ t.main = s.main ∧ t.data = s.data.commit ∧ t.sen = s.sen.commit ∧
        t.ts = forcedTs i s ∧ t.engine = .busy ∧ undisturbed s t) ∧
    ((instantEvents i s).stbFall = true → k + 1 < n →
      ∃ t r', step (s.feed i) = .next t ∧ t.main = some { point := .readBit n (k + 1) r', callers := c } ∧
        (∀ j, j < 16 → r'.getLsbD j = if j = k then i.lineIn else r.getLsbD j) ∧
        t.data = { cur := s.data.settled, pend := some i.lineIn } ∧ t.sen = s.sen.commit ∧
        t.ts = forcedTs i s ∧ t.engine = .busy ∧ undisturbed s t)

/-- THE STALL: a transfer that finds the strobe gated off never returns, over any inputs without block reset: it raises no
fault, writes nothing, and the engine stays Busy (R67, R122, R262, R284). -/
def Obligations.GatedTransferStalls : Prop :=
  ∀ (s : State) (p : Process) (is : List Input), s.engine = .busy → s.main = some p →
    (p.point.callee = .sendBits ∨ p.point.callee = .readBits) → s.gateOpen = false → s.sen.settled = false →
    noReset is = true →
    ∃ u, runOn is s = .next u ∧ u.engine = .busy ∧ u.main = some p ∧ u.done = s.done ∧ u.errCode = s.errCode ∧
      u.errInfo = s.errInfo ∧ u.result = s.result ∧ u.seq = s.seq ∧ u.cache = s.cache ∧ u.req = s.req ∧
      u.gateOpen = false ∧ sameLines s u

/-- One instant of `rest(c)`: without a clock rise it waits; the first clock rise writes `ts` and `data` and either goes
on to the loop or, for `c = 1`, leaves; in the loop a clock rise goes on while cycles are left and `ts` is Rest, and
otherwise leaves with `sen <= 1`, `ts` as it stands, a bare REST and the rest of a verb alike (R126, R127, R128, R161). -/
def Obligations.RestInstant : Prop :=
  ∀ (s : State) (i : Input) (n : Nat), plainInstant i s = true → s.engine = .busy →
    (∀ p : Process, s.main = some p → p.point.callee = .rest → (levelEvents s i).clkRise = false →
      ∃ t, step (s.feed i) = .next t ∧ t.main = some p ∧ t.data = s.data.commit ∧ t.sen = s.sen.commit ∧
        t.ts = forcedTs i s ∧ t.engine = .busy ∧ undisturbed s t) ∧
    (∀ c, s.main = some { point := .restFirst n, callers := c } → (levelEvents s i).clkRise = true → 2 ≤ n →
      ∃ t, step (s.feed i) = .next t ∧ t.main = some { point := .restLoop n 1, callers := c } ∧
        t.data = { cur := s.data.settled, pend := some false } ∧ t.sen = s.sen.commit ∧ t.ts = .rest ∧
        t.engine = .busy ∧ undisturbed s t) ∧
    (s.main = some { point := .restFirst n, callers := [] } → (levelEvents s i).clkRise = true → n = 1 →
      ∃ t, step (s.feed i) = .next t ∧ t.main = none ∧ t.data = { cur := s.data.settled, pend := some false } ∧
        t.sen = { cur := s.sen.settled, pend := some true } ∧ t.ts = .rest ∧ t.engine = .idle ∧ t.done = true ∧
        undisturbed s t) ∧
    (∀ c j, s.main = some { point := .restLoop n j, callers := c } → (levelEvents s i).clkRise = true → j + 1 < n →
      forcedTs i s = .rest →
      ∃ t, step (s.feed i) = .next t ∧ t.main = some { point := .restLoop n (j + 1), callers := c } ∧
        t.data = s.data.commit ∧ t.sen = s.sen.commit ∧ t.ts = .rest ∧ t.engine = .busy ∧ undisturbed s t) ∧
    (∀ j, s.main = some { point := .restLoop n j, callers := [] } → (levelEvents s i).clkRise = true →
      (n ≤ j + 1 ∨ forcedTs i s ≠ .rest) →
      ∃ t, step (s.feed i) = .next t ∧ t.main = none ∧ t.data = s.data.commit ∧
        t.sen = { cur := s.sen.settled, pend := some true } ∧ t.ts = forcedTs i s ∧ t.engine = .idle ∧ t.done = true ∧
        undisturbed s t) ∧
    (∀ j, s.main = some { point := .restLoop n j, callers := [.join] } → s.labelProc = .finished →
      (levelEvents s i).clkRise = true → (n ≤ j + 1 ∨ forcedTs i s ≠ .rest) →
      ∃ t, step (s.feed i) = .next t ∧ completed t ∧ t.data = s.data.commit ∧
        t.sen = { cur := s.sen.settled, pend := some true } ∧ t.ts = forcedTs i s ∧ t.label = s.label ∧
        undisturbed s t)

/-- REST 0 completes in the instant of its call and changes nothing but `engine_state`, `done` and the main process:
no line and no register, `ts` included (R129, R223). -/
def Obligations.RestZeroDoesNothing : Prop :=
  ∀ s : State, s.callers = [] → exec (.rest 0) s = .next { s with engine := .idle, done := true, main := none }

/-- REST n, n >= 1, under every interleaving of the edges: it completes at the n-th clock rise after its call, with `ts`
Rest, `data` cleared and `sen <= 1` pending, provided no force comes, which for n = 1 makes no difference (R126 to
R130). -/
def Obligations.RestCompletes : Prop :=
  ∀ (s : State) (n : Arg), calling s → 1 ≤ n.toNat →
    ∃ t, exec (.rest n) s = .next t ∧
      ∀ is : List Input, noReset is = true → endsAtRise true n.toNat is → (n.toNat = 1 ∨ noForce is = true) →
        ∃ u, runOn is t.notify = .next u ∧ completed u ∧ u.data.settled = false ∧
          u.sen = { cur := false, pend := some true } ∧ u.ts = .rest ∧ u.label = s.label ∧ u.result = s.result ∧
          undisturbed s u

/-- THE EARLY EXIT. A REST of two or more cycles, under every interleaving: its first clock rise writes Rest over any force
that has come; after it the rest ends at its first check that finds TransportState forced away from Rest, whether the
force came between two checks or at the check, and otherwise at its last cycle, which has no check; TransportState stays
as the forces left it, and `sen <= 1` is pending either way. The three-cycle rests of BEGIN_PROGRAM, ERASE_PROGRAM,
ERASE_DATA and their command codes end in the same way, under LOCKED 16 ticks after the call if the check fails and 18
ticks after it if not (R126 to R128, R145, R146, R226, R289; the command codes as instructions are assumption log 7). -/
def Obligations.RestCutShort : Prop :=
  (∀ (s : State) (n : Arg), calling s → 2 ≤ n.toNat →
    ∃ t, exec (.rest n) s = .next t ∧
      ∀ first : List Input, noReset first = true → endsAtRise true 1 first →
        ∃ v, runOn first t.notify = .next v ∧ v.engine = .busy ∧ v.ts = .rest ∧ v.clk = true ∧
          ∀ (m : Nat) (is : List Input), 1 ≤ m → noReset is = true → endsAtRise true m is →
            restHolds v.params true v.rawStb .rest is.dropLast = true →
            (m + 1 = n.toNat ∨ (m + 1 < n.toNat ∧ tsThrough v.params true v.rawStb .rest is ≠ .rest)) →
            ∃ u, runOn is v = .next u ∧ completed u ∧ u.data = { cur := false, pend := none } ∧
              u.sen = { cur := false, pend := some true } ∧ u.ts = tsThrough v.params true v.rawStb .rest is ∧
              u.label = s.label ∧ u.result = s.result ∧ undisturbed s u) ∧
  (∀ (i : Instr) (s : State) (tr : Transfer), transferOf i = some tr → tr.tail = .rests → calling s → strobing s →
    ∃ t, exec i s = .next t ∧
      ∀ (is js : List Input) (first : Input), lockedFrom true is = true → is.length = 13 →
        lockedLevels false (first :: js) = true →
        ((js.length = 2 ∧ tsThrough s.params true true .rest js ≠ .rest) ∨
          (js.length = 4 ∧ tsThrough s.params true true .rest (js.take 2) = .rest)) →
        ∃ u, runOn (is ++ first :: js) t.notify = .next u ∧ completed u ∧ u.data = { cur := false, pend := none } ∧
          u.sen = { cur := false, pend := some true } ∧ u.ts = tsThrough s.params true true .rest js ∧
          u.label = tr.label.getD s.label ∧ u.result = s.result ∧ undisturbed s u)

/-! ### Layers 2 and 3: single transactions -/

/-- A command with nothing after it and no label, under every interleaving of the edges: it completes at the sixth rise of
the raw strobe after its call, each bit of the code written at its own rise (R61, R72, R120, R142). It covers SEND_CMD
and the command codes IncrementAddress, EndProgramming and BeginProgrammingExternallyTimed, each run as a transaction of its own (assumption
logs 7 and 8). -/
def Obligations.CommandCompletesUnderFree : Prop :=
  ∀ (i : Instr) (s : State) (tr : Transfer), transferOf i = some tr → tr.tail = .nothing → tr.label = none →
    s.params.schedule = .free → calling s → strobing s →
    ∃ t, exec i s = .next t ∧ t.ts = .tx ∧
      (∀ (k : Nat) (is : List Input), k < 6 → noReset is = true → endsAtStrobe true (k + 1) is →
        writesBit is t.notify (tr.code.getLsbD k)) ∧
      (∀ is : List Input, noReset is = true → noForce is = true → endsAtStrobe true 6 is →
        ∃ u, runOn is t.notify = .next u ∧ completed u ∧ u.data.pend = some (tr.code.getLsbD 5) ∧
          u.sen = { cur := true, pend := none } ∧ u.ts = .tx ∧ u.label = s.label ∧ u.result = s.result ∧
          undisturbed s u)

/-- A command with nothing after it completes 12 ticks after its call under LOCKED, its code on the data line
least-significant bit first, its label published if it is a verb (R72, R94, R95, R102, R121, R142, R161, R165, R166,
R295). It covers INCREMENT_ADDRESS, END_PROGRAMMING, SEND_CMD and the command codes IncrementAddress, EndProgramming and
BeginProgrammingExternallyTimed, each run as a transaction of its own (assumption logs 7 and 8). -/
def Obligations.CommandTransfersComplete : Prop :=
  ∀ (i : Instr) (s : State) (tr : Transfer), transferOf i = some tr → tr.tail = .nothing → calling s → strobing s →
    ∃ t, exec i s = .next t ∧ t.ts = .tx ∧
      ∀ is : List Input, lockedFrom true is = true → is.length = 12 →
        sendsBits is t.notify (tr.code.setWidth 16) 6 2 ∧
        ∃ u, runOn is t.notify = .next u ∧ completed u ∧ u.data.pend = some (tr.code.getLsbD 5) ∧
          u.sen = { cur := true, pend := none } ∧ u.ts = .tx ∧ u.label = tr.label.getD s.label ∧
          u.result = s.result ∧ undisturbed s u

/-- A command and a write frame complete 44 ticks after the call under LOCKED, code and frame on the data line
least-significant bit first (R72, R73, R92, R93, R96, R103, R121, R140, R141, R162 to R164, R295). It covers
LOAD_CONFIG, LOAD_PROGRAM, LOAD_DATA, SEND_CMD_DATA, SEND_CMD_BYTE and the command codes LoadConfiguration,
LoadDataForProgramMemory and LoadDataForDataMemory, each run as a transaction of its own (assumption log 7). -/
def Obligations.WriteTransfersComplete : Prop :=
  ∀ (i : Instr) (s : State) (tr : Transfer) (f : WireFrame), transferOf i = some tr → tr.tail = .writes f →
    calling s → strobing s →
    ∃ t, exec i s = .next t ∧ t.ts = .tx ∧
      ∀ is : List Input, lockedFrom true is = true → is.length = 44 →
        sendsBits is t.notify (tr.code.setWidth 16) 6 2 ∧ sendsBits is t.notify f 16 14 ∧
        ∃ u, runOn is t.notify = .next u ∧ completed u ∧ u.data.pend = some (f.getLsbD 15) ∧
          u.sen = { cur := true, pend := none } ∧ u.ts = .tx ∧ u.label = tr.label.getD s.label ∧
          u.result = s.result ∧ undisturbed s u

/-- A command and a read complete 43 ticks after the call under LOCKED, if the target answers with a well-framed frame;
the four reading requests write its payload to `result`, zero-extended (R36, R97, R98, R104, R124, R143, R144, R167,
R168, R223, R295). It covers READ_PROGRAM, READ_DATA, SEND_CMD_READ, SEND_CMD_READ_BYTE and the command codes
ReadDataFromProgramMemory and ReadDataFromDataMemory, each run as a transaction of its own (assumption log 7). -/
def Obligations.ReadTransfersComplete : Prop :=
  ∀ (i : Instr) (s : State) (tr : Transfer) (p : Payload), transferOf i = some tr → tr.tail = .reads p →
    calling s → strobing s →
    ∃ t, exec i s = .next t ∧ t.ts = .tx ∧
      ∀ (is : List Input) (f : WireFrame), lockedFrom true is = true → is.length = 43 → answers is 12 f →
        wellFramed f →
        sendsBits is t.notify (tr.code.setWidth 16) 6 2 ∧
        ∃ u, runOn is t.notify = .next u ∧ completed u ∧ u.data.pend = some false ∧
          u.sen = { cur := true, pend := none } ∧ u.ts = .rx ∧ u.label = tr.label.getD s.label ∧
          u.result = (if writesResult i then readValue p f else s.result) ∧ undisturbed s u

/-- The same read against a frame with its start bit or its stop bit at 1 raises FRAME at the 16th sample, with the frame
as the information; `result` and `done` stay, the label is published already, and the write-back of the last sample is
pending (R104, R143, R144, R174, R250, R253). It covers READ_PROGRAM, READ_DATA, SEND_CMD_READ, SEND_CMD_READ_BYTE and the
command codes ReadDataFromProgramMemory and ReadDataFromDataMemory, each run as a transaction of its own (assumption log
7). -/
def Obligations.ReadTransfersFault : Prop :=
  ∀ (i : Instr) (s : State) (tr : Transfer) (p : Payload), transferOf i = some tr → tr.tail = .reads p →
    calling s → strobing s →
    ∃ t, exec i s = .next t ∧
      ∀ (is : List Input) (f : WireFrame), lockedFrom true is = true → is.length = 43 → answers is 12 f →
        ¬ wellFramed f →
        ∃ u, runOn is t.notify = .next u ∧ faultedWith .frame (f.setWidth 32) u ∧ u.data.pend = some (f.getLsbD 15) ∧
          u.sen = { cur := true, pend := none } ∧ u.ts = .rx ∧ u.label = tr.label.getD s.label ∧
          u.result = s.result ∧ u.done = false ∧ u.seq = s.seq ∧ u.cache = s.cache ∧ u.req = s.req

/-- A command and its timed rest complete 18 ticks after the call under LOCKED, with `ts` Rest, `data` cleared and
`sen <= 1` pending (R99 to R101, R126, R145, R146, R169 to R171, R295). It covers BEGIN_PROGRAM, ERASE_PROGRAM,
ERASE_DATA and the command codes BeginProgrammingInternallyTimed, BulkEraseProgramMemory and BulkEraseDataMemory,
each run as a transaction of its own (assumption log 7). -/
def Obligations.TimedTransfersComplete : Prop :=
  ∀ (i : Instr) (s : State) (tr : Transfer), transferOf i = some tr → tr.tail = .rests → calling s → strobing s →
    ∃ t, exec i s = .next t ∧ t.ts = .tx ∧
      ∀ is : List Input, lockedFrom true is = true → is.length = 18 →
        sendsBits is t.notify (tr.code.setWidth 16) 6 2 ∧
        ∃ u, runOn is t.notify = .next u ∧ completed u ∧ u.data = { cur := false, pend := none } ∧
          u.sen = { cur := false, pend := some true } ∧ u.ts = .rest ∧ u.label = tr.label.getD s.label ∧
          u.result = s.result ∧ undisturbed s u

/-- The width checks, from every state: an operand out of range raises its fault at the call, the code's before the
data's, with the operand as the information, and nothing else changes: no line, no `ts`, no label (R139, R174). -/
def Obligations.WidthFaults : Prop :=
  ∀ (s : State) (c : Cmd) (d : Arg),
    let faulted (code : ErrorCode) (info : BitVec 32) : State :=
      { s with errCode := code, errInfo := info, engine := .faulted, main := none, labelProc := .idle }
    (64 ≤ c.toNat →
      exec (.sendCmd c) s = .next (faulted .cmdWidth (c.setWidth 32)) ∧
      exec (.sendCmdData c d) s = .next (faulted .cmdWidth (c.setWidth 32)) ∧
      exec (.sendCmdByte c d) s = .next (faulted .cmdWidth (c.setWidth 32)) ∧
      exec (.sendCmdRead c) s = .next (faulted .cmdWidth (c.setWidth 32)) ∧
      exec (.sendCmdReadByte c) s = .next (faulted .cmdWidth (c.setWidth 32))) ∧
    (c.toNat < 64 → 16384 ≤ d.toNat → exec (.sendCmdData c d) s = .next (faulted .dataWidth (d.setWidth 32))) ∧
    (c.toNat < 64 → 256 ≤ d.toNat → exec (.sendCmdByte c d) s = .next (faulted .byteWidth (d.setWidth 32))) ∧
    (16384 ≤ d.toNat →
      exec (.loadConfig d) s = .next (faulted .dataWidth (d.setWidth 32)) ∧
      exec (.loadProgram d) s = .next (faulted .dataWidth (d.setWidth 32)) ∧
      exec (.programCycle d) s = .next (faulted .dataWidth (d.setWidth 32))) ∧
    (256 ≤ d.toNat → exec (.loadData d) s = .next (faulted .byteWidth (d.setWidth 32)))

/-- A verb's label is published at the first clock rise after its call, in every interleaving, also if the verb faults in
that very instant (DEDUCED, assumption log 6), and not before it (R161, R174, R175). -/
def Obligations.LabelPublishedAtClockRise : Prop :=
  ∀ (s t : State) (i : Input) (v : CommandLabel), invariant s = true → s.labelProc = .waiting v →
    plainInstant i s = true → step (s.feed i) = .next t →
    ((levelEvents s i).clkRise = true → t.label = v) ∧
    ((levelEvents s i).clkRise = false → t.label = s.label)

/-- THE JOIN: a verb whose protocol branch has ended waits for its label process, and returns in the instant in which the
label is published (R70, R82, R161). -/
def Obligations.VerbWaitsForLabel : Prop :=
  ∀ (s : State) (i : Input) (x : WireFrame) (v : CommandLabel), plainInstant i s = true → s.engine = .busy →
    s.labelProc = .waiting v →
    (∀ c, s.main = some { point := .joining x, callers := c } → (levelEvents s i).clkRise = false →
      ∃ t, step (s.feed i) = .next t ∧ t.main = s.main ∧ t.labelProc = s.labelProc ∧ t.label = s.label ∧
        t.engine = .busy ∧ t.data = s.data.commit ∧ t.sen = s.sen.commit ∧ undisturbed s t) ∧
    (s.main = some { point := .joining x, callers := [] } → (levelEvents s i).clkRise = true →
      ∃ t, step (s.feed i) = .next t ∧ completed t ∧ t.label = v ∧ t.data = s.data.commit ∧ t.sen = s.sen.commit ∧
        undisturbed s t)

/-- Nothing else writes `label`: a changed label is the verb's own at a clock rise, or None at the first clock rise of
`start` or `shutdown`; so a label persists from one verb to the next (R23, R69, R173). -/
def Obligations.LabelWriters : Prop :=
  ∀ (s t : State) (i : Input), invariant s = true → plainInstant i s = true → step (s.feed i) = .next t →
    t.label ≠ s.label →
    (levelEvents s i).clkRise = true ∧
    (s.labelProc = .waiting t.label ∨
      (t.label = .none ∧ ∃ c, s.main = some { point := .startPm, callers := c } ∨
        s.main = some { point := .shutdownData, callers := c }))

/-- The sequence state moves only as R194 says: to Running at the last clock rise of `start`, to ShuttingDown at the call
of `shutdown`, to Uninitialized at the last clock rise of `shutdown` (R24, R194). -/
def Obligations.SeqWriters : Prop :=
  ∀ (s t : State) (i : Input), plainInstant i s = true → step (s.feed i) = .next t → t.seq ≠ s.seq →
    (t.seq = .running → (levelEvents s i).clkRise = true ∧ ∃ c, s.main = some { point := .startSen, callers := c }) ∧
    (t.seq = .shuttingDown → ∃ c, t.main = some { point := .shutdownData, callers := c }) ∧
    (t.seq = .uninitialized →
      (levelEvents s i).clkRise = true ∧ ∃ c, s.main = some { point := .shutdownEnd, callers := c })

/-! ### Layer 4 -/

/-- START, under every interleaving of the edges: it completes at the third clock rise after its call and leaves the state
of R282 (R190, R194, R282). -/
def Obligations.StartCompletes : Prop :=
  ∀ s : State, calling s →
    ∃ t, exec .start s = .next t ∧
      ∀ is : List Input, noReset is = true → endsAtRise true 3 is →
        ∃ u, runOn is t.notify = .next u ∧ completed u ∧ poweredUp u ∧ u.label = .none ∧
          (noForce is = true → u.ts = .rest) ∧ keepsRegisters s u

/-- SHUTDOWN, under every interleaving of the edges: it completes at the fourth clock rise after its call with all lines
at 0 (R191, R194). -/
def Obligations.ShutdownCompletes : Prop :=
  ∀ s : State, calling s →
    ∃ t, exec .shutdown s = .next t ∧ t.seq = .shuttingDown ∧
      ∀ is : List Input, noReset is = true → endsAtRise true 4 is →
        ∃ u, runOn is t.notify = .next u ∧ completed u ∧ poweredDown u ∧ u.label = .none ∧
          (noForce is = true → u.ts = .rest) ∧ keepsRegisters s u

/-- RESET, under every interleaving of the edges: SHUTDOWN then START, completing at the seventh clock rise after its call
(R192, R194). -/
def Obligations.ResetCompletes : Prop :=
  ∀ s : State, calling s →
    ∃ t, exec .reset s = .next t ∧ t.seq = .shuttingDown ∧
      ∀ is : List Input, noReset is = true → endsAtRise true 7 is →
        ∃ u, runOn is t.notify = .next u ∧ completed u ∧ poweredUp u ∧ u.label = .none ∧
          (noForce is = true → u.ts = .rest) ∧ keepsRegisters s u

/-- THE POWER ORDER, under every interleaving and at every instant: during START, once its first writes are committed,
power is on only with program-mode and the strobe enabled only with power; during a SHUTDOWN of a powered target the
strobe is disabled before program-mode falls and program-mode falls before power (R200). -/
def Obligations.PowerOrder : Prop :=
  ∀ (s : State) (is : List Input), calling s → noReset is = true →
    (clockRises true is ≤ 3 →
      ∃ t, exec .start s = .next t ∧ ∃ u, runOn is t.notify = .next u ∧
        (u.pm.pend = some false ∨ ((u.pwr.cur = true → u.pm.cur = true) ∧ (u.sen.cur = true → u.pwr.cur = true)))) ∧
    (clockRises true is ≤ 4 → s.pm = { cur := true, pend := none } → s.pwr = { cur := true, pend := none } →
      ∃ t, exec .shutdown s = .next t ∧ ∃ u, runOn is t.notify = .next u ∧
        (u.pm.cur = false → u.sen.cur = false) ∧ (u.pwr.cur = false → u.pm.cur = false))

/-- PROGRAM_CYCLE d against a target that reads back `d` completes 116 ticks after its call under LOCKED: the word, the
timed rest, the read-back, then IncrementAddress, in this order on the data line (R193, R295). -/
def Obligations.ProgramCycleCompletes : Prop :=
  ∀ (s : State) (d : Arg), d.toNat < 16384 → calling s → strobing s →
    ∃ t, exec (.programCycle d) s = .next t ∧
      ∀ (is : List Input) (f : WireFrame), lockedFrom true is = true → is.length = 116 → answers is 74 f →
        wellFramed f → (wordOf f).toNat = d.toNat →
        sendsCodes is t.notify [(0x02, 2), (0x08, 46), (0x04, 64), (0x06, 106)] ∧
        sendsBits is t.notify (doubled d.toNat) 16 14 ∧
        ∃ u, runOn is t.notify = .next u ∧ completed u ∧ u.data.pend = some false ∧
          u.sen = { cur := true, pend := none } ∧ u.ts = .tx ∧ u.label = .incrementAddress ∧ u.result = s.result ∧
          undisturbed s u

/-- PROGRAM_CYCLE d against a target that reads back anything else faults at the 16th sample of the read, 105 ticks after
its call under LOCKED, and issues no IncrementAddress: FRAME for a badly framed answer, else FAULTY_WRITE with the
expected word in bits 29:16 and the word read in bits 13:0. Under every interleaving, and whether or not the read's label
has been published, the fault comes in the instant of the last sample, and a label still waiting is published only if the
clock rises in it (R174, R193, R250, R252, R253; DEDUCED, assumption logs 6 and 18). -/
def Obligations.ProgramCycleFaults : Prop :=
  (∀ (s : State) (d : Arg), d.toNat < 16384 → calling s → strobing s →
    ∃ t, exec (.programCycle d) s = .next t ∧
      ∀ (is : List Input) (f : WireFrame), lockedFrom true is = true → is.length = 105 → answers is 74 f →
        (¬ wellFramed f ∨ (wordOf f).toNat ≠ d.toNat) →
        ∃ u, runOn is t.notify = .next u ∧
          (¬ wellFramed f → faultedWith .frame (f.setWidth 32) u) ∧
          (wellFramed f →
            faultedWith .faultyWrite (BitVec.ofNat 32 (d.toNat * 2 ^ 16 + (wordOf f).toNat)) u) ∧
          u.ts = .rx ∧ u.label = .readProgram ∧ u.result = s.result ∧ u.done = false ∧ u.seq = s.seq ∧
          u.cache = s.cache ∧ u.req = s.req) ∧
  (∀ (s : State) (i : Input) (d : Arg) (r f : WireFrame) (c : List Frame), plainInstant i s = true → s.engine = .busy →
    s.main = some { point := .readBit 16 15 r, callers := .checkFrame .word :: .join :: .programAfterRead d :: c } →
    (instantEvents i s).stbFall = true → (∀ j, j < 16 → f.getLsbD j = if j = 15 then i.lineIn else r.getLsbD j) →
    (¬ wellFramed f ∨ (wordOf f).toNat ≠ d.toNat) →
    ∃ t, step (s.feed i) = .next t ∧
      (¬ wellFramed f → faultedWith .frame (f.setWidth 32) t) ∧
      (wellFramed f → faultedWith .faultyWrite (BitVec.ofNat 32 (d.toNat * 2 ^ 16 + (wordOf f).toNat)) t) ∧
      (∀ v, s.labelProc = .waiting v → t.label = if (levelEvents s i).clkRise then v else s.label) ∧
      (s.labelProc.suspended = false → t.label = s.label) ∧ t.ts = forcedTs i s ∧
      t.data = { cur := s.data.settled, pend := some i.lineIn } ∧ t.sen = s.sen.commit ∧ t.pm = s.pm.commit ∧
      t.pwr = s.pwr.commit ∧ t.result = s.result ∧ t.done = s.done ∧ t.seq = s.seq ∧ t.cache = s.cache ∧ t.req = s.req)

/-- READ_OSCCAL, from any line levels, completes 93 ticks after its call under LOCKED with the word in the cache, or,
where the sanity check is on and refuses the word, faults there with INVALID_OSCCAL and the cache unwritten (R5, R196,
R295). Which words the check refuses is open: a constant without a body (assumption log 10). -/
def Obligations.ReadOsccalCompletes : Prop :=
  ∀ s : State, calling s → lockedHigh s →
    ∃ t, exec .readOsccal s = .next t ∧
      ∀ (is : List Input) (f : WireFrame), lockedFrom true is = true → is.length = 93 → answers is 62 f →
        wellFramed f →
        sendsCodes is t.notify [(0x06, 16), (0x06, 28), (0x06, 40), (0x04, 52)] ∧
        ∃ u, runOn is t.notify = .next u ∧ u.pm = { cur := true, pend := none } ∧
          u.pwr = { cur := true, pend := none } ∧ u.sen = { cur := true, pend := none } ∧ u.seq = .running ∧
          u.ts = .rx ∧ u.label = .readProgram ∧ u.result = s.result ∧
          (if s.params.osccalCheck && !Config.osccalValid (wordOf f) then
            faultedWith .invalidOsccal ((wordOf f).setWidth 32) u ∧ u.cache = s.cache
          else completed u ∧ u.cache = { s.cache with osccal := wordOf f, osccalValid := true })

/-- READ_ID_BANDGAP, from any line levels, completes 353 ticks after its call under LOCKED with the five words in the
cache: LoadConfig(0), five reads and seven increments, in the order of R197 on the data line (R197, R295). -/
def Obligations.ReadIdBandgapCompletes : Prop :=
  ∀ s : State, calling s → lockedHigh s →
    ∃ t, exec .readIdBandgap s = .next t ∧
      ∀ (is : List Input) (f0 f1 f2 f3 f4 : WireFrame), lockedFrom true is = true → is.length = 353 →
        answers is 70 f0 → answers is 124 f1 → answers is 178 f2 → answers is 232 f3 → answers is 322 f4 →
        wellFramed f0 → wellFramed f1 → wellFramed f2 → wellFramed f3 → wellFramed f4 →
        sendsCodes is t.notify
          [(0x00, 16), (0x04, 60), (0x06, 102), (0x04, 114), (0x06, 156), (0x04, 168), (0x06, 210), (0x04, 222),
           (0x06, 264), (0x06, 276), (0x06, 288), (0x06, 300), (0x04, 312)] ∧
        sendsBits is t.notify 0 16 28 ∧
        ∃ u, runOn is t.notify = .next u ∧ completed u ∧ u.pm = { cur := true, pend := none } ∧
          u.pwr = { cur := true, pend := none } ∧ u.sen = { cur := true, pend := none } ∧ u.seq = .running ∧
          u.ts = .rx ∧ u.label = .readProgram ∧ u.result = s.result ∧
          u.cache = { s.cache with id0 := wordOf f0, id1 := wordOf f1, id2 := wordOf f2, id3 := wordOf f3,
                                   bandgap := wordOf f4, idValid := true, bandgapValid := true }

/-- A badly framed answer to the read of READ_OSCCAL or to any of the five reads of READ_ID_BANDGAP, the ones before it
answered well, faults with FRAME at its 16th sample and leaves the whole cache as it was (R195, R196, R197, R250). -/
def Obligations.IdentityReadFaults : Prop :=
  ∀ s : State, calling s → lockedHigh s →
    (∃ t, exec .readOsccal s = .next t ∧
      ∀ (is : List Input) (f : WireFrame), lockedFrom true is = true → is.length = 93 → answers is 62 f →
        ¬ wellFramed f →
        ∃ u, runOn is t.notify = .next u ∧ faultedWith .frame (f.setWidth 32) u ∧ u.cache = s.cache ∧
          u.result = s.result ∧ u.seq = .running) ∧
    (∃ t, exec .readIdBandgap s = .next t ∧
      ∀ (n : Nat) (is : List Input) (f : WireFrame), n < 5 → lockedFrom true is = true →
        is.length = idReadAt n + 31 → (∀ m, m < n → ∃ g, wellFramed g ∧ answers is (idReadAt m) g) →
        answers is (idReadAt n) f → ¬ wellFramed f →
        ∃ u, runOn is t.notify = .next u ∧ faultedWith .frame (f.setWidth 32) u ∧ u.cache = s.cache ∧
          u.result = s.result ∧ u.seq = .running)

/-- BULK_ERASE_DEVICE checks the cache first, from every state: a missing word raises PRECONDITION at the call, naming
the first missing of OSCCAL, ID, BandGap, and nothing else changes (R198, R250, R252). -/
def Obligations.BulkErasePreconditions : Prop :=
  ∀ s : State,
    let faulted (info : BitVec 32) : State :=
      { s with errCode := .precondition, errInfo := info, engine := .faulted, main := none, labelProc := .idle }
    (s.cache.osccalValid = false → exec .bulkEraseDevice s = .next (faulted 0)) ∧
    (s.cache.osccalValid = true → s.cache.idValid = false → exec .bulkEraseDevice s = .next (faulted 1)) ∧
    (s.cache.osccalValid = true → s.cache.idValid = true → s.cache.bandgapValid = false →
      exec .bulkEraseDevice s = .next (faulted 2))

/-- BULK_ERASE_DEVICE with the cache full completes 36 ticks after its call under LOCKED: EraseProgram then EraseData, each
with its rest, the cache unchanged (R83, R198, R295). -/
def Obligations.BulkEraseCompletes : Prop :=
  ∀ s : State, calling s → strobing s → s.cache.osccalValid = true → s.cache.idValid = true →
    s.cache.bandgapValid = true →
    ∃ t, exec .bulkEraseDevice s = .next t ∧
      ∀ is : List Input, lockedFrom true is = true → is.length = 36 →
        sendsCodes is t.notify [(0x09, 2), (0x0B, 20)] ∧
        ∃ u, runOn is t.notify = .next u ∧ completed u ∧ u.data = { cur := false, pend := none } ∧
          u.sen = { cur := false, pend := some true } ∧ u.ts = .rest ∧ u.label = .eraseData ∧ u.result = s.result ∧
          undisturbed s u

/-- CLEAN_DEVICE, from any line levels, completes 480 ticks after its call under LOCKED, the sanity check off or accepting
the word: both identity reads fill the cache, then EraseProgram and EraseData go onto the data line (R199, R295). -/
def Obligations.CleanDeviceCompletes : Prop :=
  ∀ s : State, calling s → lockedHigh s →
    ∃ t, exec .cleanDevice s = .next t ∧
      ∀ (is : List Input) (f f0 f1 f2 f3 f4 : WireFrame), lockedFrom true is = true → is.length = 480 →
        answers is 62 f → answers is 162 f0 → answers is 216 f1 → answers is 270 f2 → answers is 324 f3 →
        answers is 414 f4 →
        wellFramed f → wellFramed f0 → wellFramed f1 → wellFramed f2 → wellFramed f3 → wellFramed f4 →
        (s.params.osccalCheck = false ∨ Config.osccalValid (wordOf f) = true) →
        sendsCodes is t.notify [(0x09, 446), (0x0B, 464)] ∧
        ∃ u, runOn is t.notify = .next u ∧ completed u ∧ u.pm = { cur := true, pend := none } ∧
          u.pwr = { cur := true, pend := none } ∧ u.data = { cur := false, pend := none } ∧
          u.sen = { cur := false, pend := some true } ∧ u.seq = .running ∧ u.ts = .rest ∧ u.label = .eraseData ∧
          u.result = s.result ∧
          u.cache = { osccal := wordOf f, osccalValid := true, id0 := wordOf f0, id1 := wordOf f1, id2 := wordOf f2,
                      id3 := wordOf f3, bandgap := wordOf f4, idValid := true, bandgapValid := true }

/-- SESSION, from any line levels, completes 488 ticks after its call under LOCKED, the sanity check off or accepting the
word: the cache is cleared, filled and kept, EraseProgram and EraseData go onto the data line, and then the strobe,
program-mode and power fall in this order (R191, R200, R204, R295). -/
def Obligations.SessionCompletes : Prop :=
  ∀ s : State, calling s → lockedHigh s →
    ∃ t, exec .session s = .next t ∧ t.cache = IdentityCache.empty ∧
      ∀ (is : List Input) (f f0 f1 f2 f3 f4 : WireFrame), lockedFrom true is = true → is.length = 488 →
        answers is 62 f → answers is 162 f0 → answers is 216 f1 → answers is 270 f2 → answers is 324 f3 →
        answers is 414 f4 →
        wellFramed f → wellFramed f0 → wellFramed f1 → wellFramed f2 → wellFramed f3 → wellFramed f4 →
        (s.params.osccalCheck = false ∨ Config.osccalValid (wordOf f) = true) →
        sendsCodes is t.notify [(0x09, 446), (0x0B, 464)] ∧
        powerAfter is t.notify 482 true true true ∧ powerAfter is t.notify 483 true true false ∧
        powerAfter is t.notify 485 false true false ∧ powerAfter is t.notify 487 false false false ∧
        ∃ u, runOn is t.notify = .next u ∧ completed u ∧ poweredDown u ∧ u.ts = .rest ∧ u.label = .none ∧
          u.result = s.result ∧
          u.cache = { osccal := wordOf f, osccalValid := true, id0 := wordOf f0, id1 := wordOf f1, id2 := wordOf f2,
                      id3 := wordOf f3, bandgap := wordOf f4, idValid := true, bandgapValid := true }

/-- The identity cache is written in three places only, and never in an instant that faults: where the read of `readOSCCAL`
has returned, its word and valid bit; where the last read of `readIDAndBandGap` has returned, the four ID words collected
before, the band gap and both valid bits, all together; and where a SESSION is accepted, which clears it (R39, R83, R197,
R203). -/
def Obligations.CacheWriters : Prop :=
  ∀ (s t : State) (i : Input), invariant s = true → plainInstant i s = true → step (s.feed i) = .next t →
    t.cache ≠ s.cache →
    t.engine ≠ .faulted ∧
    ((∃ p, s.main = some p ∧ .osccalAfterRead ∈ p.callers ∧ .osccalAfterRead ∉ t.callers ∧
        ∃ w, t.cache = { s.cache with osccal := w, osccalValid := true }) ∨
      (∃ p v, s.main = some p ∧ .idAfterBandgap v ∈ p.callers ∧ .idAfterBandgap v ∉ t.callers ∧
        ∃ w, t.cache = { s.cache with id0 := v.v0, id1 := v.v1, id2 := v.v2, id3 := v.v3, bandgap := w,
                                      idValid := true, bandgapValid := true }) ∨
      (presented i s = true ∧ decodeRequest t.req = .ok .session ∧ t.cache = IdentityCache.empty))

/-! ### Faults and the whole machine -/

/-- NO RETURN FROM A FAULT: over any inputs without block reset a faulted engine accepts nothing and changes nothing; the
writes still pending commit, and `ts` follows the force input only (R253, R254, R287). -/
def Obligations.FaultedStays : Prop :=
  ∀ (s : State) (is : List Input), s.engine = .faulted → s.main = none → s.labelProc = .idle → noReset is = true →
    ∃ u, runOn is s = .next u ∧ u.engine = .faulted ∧ u.main = none ∧ u.labelProc = .idle ∧ u.errCode = s.errCode ∧
      u.errInfo = s.errInfo ∧ u.req = s.req ∧ u.done = s.done ∧ u.result = s.result ∧ u.label = s.label ∧
      u.seq = s.seq ∧ u.cache = s.cache ∧ (noForce is = true → u.ts = s.ts) ∧ sameLines s u

/-- The two invariants hold right after reset. -/
def Obligations.InvariantsAtReset : Prop :=
  invariant State.reset = true ∧ requestInvariant State.reset = true

/-- AN INVARIANT THAT EVERY STEP KEEPS, whatever the environment supplies: the engine is Busy exactly while a main process
is live; the process is well nested by the layers with its locals in range; a read-back of PROGRAM_CYCLE that waits for
its label has read the word programmed (assumption log 18); one label process, and only while its verb runs; a word of the
cache that is not valid is 0; `done` only while Idle; an error code exactly while Faulted; `last_comp` is the composite of
the lines; a pulse is open only while the raw strobe is high (R1, R25, R33, R34, R37, R39, R41, R69, R161, R225, R250). -/
def Obligations.InvariantKept : Prop :=
  ∀ s t : State, invariant s = true → step s = .next t → invariant t = true

/-- WHICH REQUEST CAN RAISE WHICH FAULT: in every step the engine goes on with what `req` asks for, or has stopped with a
fault that the table of R251 allows that request; an illegal word is the only thing that raises ILLEGAL_REQUEST, and
CLEAN_DEVICE and SESSION never raise PRECONDITION (R35, R251). -/
def Obligations.RequestInvariantKept : Prop :=
  ∀ s t : State, invariant s = true → requestInvariant s = true → step s = .next t → requestInvariant t = true

/-- In every state that meets the invariant the step answers a next state: the model never stops there, whatever the
environment supplies (R122, R253, R262). -/
def Obligations.StepAlwaysAnswers : Prop :=
  ∀ s : State, invariant s = true → ∃ t, step s = .next t

/-- The order in which the environment runs the two processes of an instant makes no difference to the state at its end
(R68, R69, R70). That this holds where the main process faults in the instant of the label's clock rise is DEDUCED
(assumption log 6). -/
def Obligations.ProcessOrderIrrelevant : Prop :=
  ∀ (s t : State) (i : Input) (b : Bool), invariant s = true → step (s.feed i) = .next t →
    step (s.feed { i with mainFirst := b }) = .next t

end
end

