-- ==== Sys2Proof/Laws/State.lean ====
section
/-! SUPPORT. The state after each update, field by field: every lemma is true by definition and is a simp lemma, so that
no proof unfolds a record update. -/

namespace Sys2Proof.Machine

/-! ### writePm -/

@[simp] theorem State.writePm_pm (v : Bool) (s : State) : (s.writePm v).pm = s.pm.write v := rfl
@[simp] theorem State.writePm_pwr (v : Bool) (s : State) : (s.writePm v).pwr = s.pwr := rfl
@[simp] theorem State.writePm_data (v : Bool) (s : State) : (s.writePm v).data = s.data := rfl
@[simp] theorem State.writePm_sen (v : Bool) (s : State) : (s.writePm v).sen = s.sen := rfl
@[simp] theorem State.writePm_gateOpen (v : Bool) (s : State) : (s.writePm v).gateOpen = s.gateOpen := rfl
@[simp] theorem State.writePm_ts (v : Bool) (s : State) : (s.writePm v).ts = s.ts := rfl
@[simp] theorem State.writePm_label (v : Bool) (s : State) : (s.writePm v).label = s.label := rfl
@[simp] theorem State.writePm_seq (v : Bool) (s : State) : (s.writePm v).seq = s.seq := rfl
@[simp] theorem State.writePm_done (v : Bool) (s : State) : (s.writePm v).done = s.done := rfl
@[simp] theorem State.writePm_engine (v : Bool) (s : State) : (s.writePm v).engine = s.engine := rfl
@[simp] theorem State.writePm_req (v : Bool) (s : State) : (s.writePm v).req = s.req := rfl
@[simp] theorem State.writePm_result (v : Bool) (s : State) : (s.writePm v).result = s.result := rfl
@[simp] theorem State.writePm_errCode (v : Bool) (s : State) : (s.writePm v).errCode = s.errCode := rfl
@[simp] theorem State.writePm_errInfo (v : Bool) (s : State) : (s.writePm v).errInfo = s.errInfo := rfl
@[simp] theorem State.writePm_lastComp (v : Bool) (s : State) : (s.writePm v).lastComp = s.lastComp := rfl
@[simp] theorem State.writePm_compValid (v : Bool) (s : State) : (s.writePm v).compValid = s.compValid := rfl
@[simp] theorem State.writePm_cache (v : Bool) (s : State) : (s.writePm v).cache = s.cache := rfl
@[simp] theorem State.writePm_main (v : Bool) (s : State) : (s.writePm v).main = s.main := rfl
@[simp] theorem State.writePm_labelProc (v : Bool) (s : State) : (s.writePm v).labelProc = s.labelProc := rfl
@[simp] theorem State.writePm_clk (v : Bool) (s : State) : (s.writePm v).clk = s.clk := rfl
@[simp] theorem State.writePm_rawStb (v : Bool) (s : State) : (s.writePm v).rawStb = s.rawStb := rfl
@[simp] theorem State.writePm_lineIn (v : Bool) (s : State) : (s.writePm v).lineIn = s.lineIn := rfl
@[simp] theorem State.writePm_params (v : Bool) (s : State) : (s.writePm v).params = s.params := rfl
@[simp] theorem State.writePm_script (v : Bool) (s : State) : (s.writePm v).script = s.script := rfl
@[simp] theorem State.writePm_instant (v : Bool) (s : State) : (s.writePm v).instant = s.instant := rfl

/-! ### writePwr -/

@[simp] theorem State.writePwr_pm (v : Bool) (s : State) : (s.writePwr v).pm = s.pm := rfl
@[simp] theorem State.writePwr_pwr (v : Bool) (s : State) : (s.writePwr v).pwr = s.pwr.write v := rfl
@[simp] theorem State.writePwr_data (v : Bool) (s : State) : (s.writePwr v).data = s.data := rfl
@[simp] theorem State.writePwr_sen (v : Bool) (s : State) : (s.writePwr v).sen = s.sen := rfl
@[simp] theorem State.writePwr_gateOpen (v : Bool) (s : State) : (s.writePwr v).gateOpen = s.gateOpen := rfl
@[simp] theorem State.writePwr_ts (v : Bool) (s : State) : (s.writePwr v).ts = s.ts := rfl
@[simp] theorem State.writePwr_label (v : Bool) (s : State) : (s.writePwr v).label = s.label := rfl
@[simp] theorem State.writePwr_seq (v : Bool) (s : State) : (s.writePwr v).seq = s.seq := rfl
@[simp] theorem State.writePwr_done (v : Bool) (s : State) : (s.writePwr v).done = s.done := rfl
@[simp] theorem State.writePwr_engine (v : Bool) (s : State) : (s.writePwr v).engine = s.engine := rfl
@[simp] theorem State.writePwr_req (v : Bool) (s : State) : (s.writePwr v).req = s.req := rfl
@[simp] theorem State.writePwr_result (v : Bool) (s : State) : (s.writePwr v).result = s.result := rfl
@[simp] theorem State.writePwr_errCode (v : Bool) (s : State) : (s.writePwr v).errCode = s.errCode := rfl
@[simp] theorem State.writePwr_errInfo (v : Bool) (s : State) : (s.writePwr v).errInfo = s.errInfo := rfl
@[simp] theorem State.writePwr_lastComp (v : Bool) (s : State) : (s.writePwr v).lastComp = s.lastComp := rfl
@[simp] theorem State.writePwr_compValid (v : Bool) (s : State) : (s.writePwr v).compValid = s.compValid := rfl
@[simp] theorem State.writePwr_cache (v : Bool) (s : State) : (s.writePwr v).cache = s.cache := rfl
@[simp] theorem State.writePwr_main (v : Bool) (s : State) : (s.writePwr v).main = s.main := rfl
@[simp] theorem State.writePwr_labelProc (v : Bool) (s : State) : (s.writePwr v).labelProc = s.labelProc := rfl
@[simp] theorem State.writePwr_clk (v : Bool) (s : State) : (s.writePwr v).clk = s.clk := rfl
@[simp] theorem State.writePwr_rawStb (v : Bool) (s : State) : (s.writePwr v).rawStb = s.rawStb := rfl
@[simp] theorem State.writePwr_lineIn (v : Bool) (s : State) : (s.writePwr v).lineIn = s.lineIn := rfl
@[simp] theorem State.writePwr_params (v : Bool) (s : State) : (s.writePwr v).params = s.params := rfl
@[simp] theorem State.writePwr_script (v : Bool) (s : State) : (s.writePwr v).script = s.script := rfl
@[simp] theorem State.writePwr_instant (v : Bool) (s : State) : (s.writePwr v).instant = s.instant := rfl

/-! ### writeData -/

@[simp] theorem State.writeData_pm (v : Bool) (s : State) : (s.writeData v).pm = s.pm := rfl
@[simp] theorem State.writeData_pwr (v : Bool) (s : State) : (s.writeData v).pwr = s.pwr := rfl
@[simp] theorem State.writeData_data (v : Bool) (s : State) : (s.writeData v).data = s.data.write v := rfl
@[simp] theorem State.writeData_sen (v : Bool) (s : State) : (s.writeData v).sen = s.sen := rfl
@[simp] theorem State.writeData_gateOpen (v : Bool) (s : State) : (s.writeData v).gateOpen = s.gateOpen := rfl
@[simp] theorem State.writeData_ts (v : Bool) (s : State) : (s.writeData v).ts = s.ts := rfl
@[simp] theorem State.writeData_label (v : Bool) (s : State) : (s.writeData v).label = s.label := rfl
@[simp] theorem State.writeData_seq (v : Bool) (s : State) : (s.writeData v).seq = s.seq := rfl
@[simp] theorem State.writeData_done (v : Bool) (s : State) : (s.writeData v).done = s.done := rfl
@[simp] theorem State.writeData_engine (v : Bool) (s : State) : (s.writeData v).engine = s.engine := rfl
@[simp] theorem State.writeData_req (v : Bool) (s : State) : (s.writeData v).req = s.req := rfl
@[simp] theorem State.writeData_result (v : Bool) (s : State) : (s.writeData v).result = s.result := rfl
@[simp] theorem State.writeData_errCode (v : Bool) (s : State) : (s.writeData v).errCode = s.errCode := rfl
@[simp] theorem State.writeData_errInfo (v : Bool) (s : State) : (s.writeData v).errInfo = s.errInfo := rfl
@[simp] theorem State.writeData_lastComp (v : Bool) (s : State) : (s.writeData v).lastComp = s.lastComp := rfl
@[simp] theorem State.writeData_compValid (v : Bool) (s : State) : (s.writeData v).compValid = s.compValid := rfl
@[simp] theorem State.writeData_cache (v : Bool) (s : State) : (s.writeData v).cache = s.cache := rfl
@[simp] theorem State.writeData_main (v : Bool) (s : State) : (s.writeData v).main = s.main := rfl
@[simp] theorem State.writeData_labelProc (v : Bool) (s : State) : (s.writeData v).labelProc = s.labelProc := rfl
@[simp] theorem State.writeData_clk (v : Bool) (s : State) : (s.writeData v).clk = s.clk := rfl
@[simp] theorem State.writeData_rawStb (v : Bool) (s : State) : (s.writeData v).rawStb = s.rawStb := rfl
@[simp] theorem State.writeData_lineIn (v : Bool) (s : State) : (s.writeData v).lineIn = s.lineIn := rfl
@[simp] theorem State.writeData_params (v : Bool) (s : State) : (s.writeData v).params = s.params := rfl
@[simp] theorem State.writeData_script (v : Bool) (s : State) : (s.writeData v).script = s.script := rfl
@[simp] theorem State.writeData_instant (v : Bool) (s : State) : (s.writeData v).instant = s.instant := rfl

/-! ### writeSen -/

@[simp] theorem State.writeSen_pm (v : Bool) (s : State) : (s.writeSen v).pm = s.pm := rfl
@[simp] theorem State.writeSen_pwr (v : Bool) (s : State) : (s.writeSen v).pwr = s.pwr := rfl
@[simp] theorem State.writeSen_data (v : Bool) (s : State) : (s.writeSen v).data = s.data := rfl
@[simp] theorem State.writeSen_sen (v : Bool) (s : State) : (s.writeSen v).sen = s.sen.write v := rfl
@[simp] theorem State.writeSen_gateOpen (v : Bool) (s : State) : (s.writeSen v).gateOpen = s.gateOpen := rfl
@[simp] theorem State.writeSen_ts (v : Bool) (s : State) : (s.writeSen v).ts = s.ts := rfl
@[simp] theorem State.writeSen_label (v : Bool) (s : State) : (s.writeSen v).label = s.label := rfl
@[simp] theorem State.writeSen_seq (v : Bool) (s : State) : (s.writeSen v).seq = s.seq := rfl
@[simp] theorem State.writeSen_done (v : Bool) (s : State) : (s.writeSen v).done = s.done := rfl
@[simp] theorem State.writeSen_engine (v : Bool) (s : State) : (s.writeSen v).engine = s.engine := rfl
@[simp] theorem State.writeSen_req (v : Bool) (s : State) : (s.writeSen v).req = s.req := rfl
@[simp] theorem State.writeSen_result (v : Bool) (s : State) : (s.writeSen v).result = s.result := rfl
@[simp] theorem State.writeSen_errCode (v : Bool) (s : State) : (s.writeSen v).errCode = s.errCode := rfl
@[simp] theorem State.writeSen_errInfo (v : Bool) (s : State) : (s.writeSen v).errInfo = s.errInfo := rfl
@[simp] theorem State.writeSen_lastComp (v : Bool) (s : State) : (s.writeSen v).lastComp = s.lastComp := rfl
@[simp] theorem State.writeSen_compValid (v : Bool) (s : State) : (s.writeSen v).compValid = s.compValid := rfl
@[simp] theorem State.writeSen_cache (v : Bool) (s : State) : (s.writeSen v).cache = s.cache := rfl
@[simp] theorem State.writeSen_main (v : Bool) (s : State) : (s.writeSen v).main = s.main := rfl
@[simp] theorem State.writeSen_labelProc (v : Bool) (s : State) : (s.writeSen v).labelProc = s.labelProc := rfl
@[simp] theorem State.writeSen_clk (v : Bool) (s : State) : (s.writeSen v).clk = s.clk := rfl
@[simp] theorem State.writeSen_rawStb (v : Bool) (s : State) : (s.writeSen v).rawStb = s.rawStb := rfl
@[simp] theorem State.writeSen_lineIn (v : Bool) (s : State) : (s.writeSen v).lineIn = s.lineIn := rfl
@[simp] theorem State.writeSen_params (v : Bool) (s : State) : (s.writeSen v).params = s.params := rfl
@[simp] theorem State.writeSen_script (v : Bool) (s : State) : (s.writeSen v).script = s.script := rfl
@[simp] theorem State.writeSen_instant (v : Bool) (s : State) : (s.writeSen v).instant = s.instant := rfl

/-! ### commit -/

@[simp] theorem State.commit_pm (s : State) : s.commit.pm = s.pm.commit := rfl
@[simp] theorem State.commit_pwr (s : State) : s.commit.pwr = s.pwr.commit := rfl
@[simp] theorem State.commit_data (s : State) : s.commit.data = s.data.commit := rfl
@[simp] theorem State.commit_sen (s : State) : s.commit.sen = s.sen.commit := rfl
@[simp] theorem State.commit_gateOpen (s : State) : s.commit.gateOpen = s.gateOpen := rfl
@[simp] theorem State.commit_ts (s : State) : s.commit.ts = s.ts := rfl
@[simp] theorem State.commit_label (s : State) : s.commit.label = s.label := rfl
@[simp] theorem State.commit_seq (s : State) : s.commit.seq = s.seq := rfl
@[simp] theorem State.commit_done (s : State) : s.commit.done = s.done := rfl
@[simp] theorem State.commit_engine (s : State) : s.commit.engine = s.engine := rfl
@[simp] theorem State.commit_req (s : State) : s.commit.req = s.req := rfl
@[simp] theorem State.commit_result (s : State) : s.commit.result = s.result := rfl
@[simp] theorem State.commit_errCode (s : State) : s.commit.errCode = s.errCode := rfl
@[simp] theorem State.commit_errInfo (s : State) : s.commit.errInfo = s.errInfo := rfl
@[simp] theorem State.commit_lastComp (s : State) : s.commit.lastComp = s.lastComp := rfl
@[simp] theorem State.commit_compValid (s : State) : s.commit.compValid = s.compValid := rfl
@[simp] theorem State.commit_cache (s : State) : s.commit.cache = s.cache := rfl
@[simp] theorem State.commit_main (s : State) : s.commit.main = s.main := rfl
@[simp] theorem State.commit_labelProc (s : State) : s.commit.labelProc = s.labelProc := rfl
@[simp] theorem State.commit_clk (s : State) : s.commit.clk = s.clk := rfl
@[simp] theorem State.commit_rawStb (s : State) : s.commit.rawStb = s.rawStb := rfl
@[simp] theorem State.commit_lineIn (s : State) : s.commit.lineIn = s.lineIn := rfl
@[simp] theorem State.commit_params (s : State) : s.commit.params = s.params := rfl
@[simp] theorem State.commit_script (s : State) : s.commit.script = s.script := rfl
@[simp] theorem State.commit_instant (s : State) : s.commit.instant = s.instant := rfl

/-! ### setTs -/

@[simp] theorem State.setTs_pm (v : TransportState) (s : State) : (s.setTs v).pm = s.pm := rfl
@[simp] theorem State.setTs_pwr (v : TransportState) (s : State) : (s.setTs v).pwr = s.pwr := rfl
@[simp] theorem State.setTs_data (v : TransportState) (s : State) : (s.setTs v).data = s.data := rfl
@[simp] theorem State.setTs_sen (v : TransportState) (s : State) : (s.setTs v).sen = s.sen := rfl
@[simp] theorem State.setTs_gateOpen (v : TransportState) (s : State) : (s.setTs v).gateOpen = s.gateOpen := rfl
@[simp] theorem State.setTs_ts (v : TransportState) (s : State) : (s.setTs v).ts = v := rfl
@[simp] theorem State.setTs_label (v : TransportState) (s : State) : (s.setTs v).label = s.label := rfl
@[simp] theorem State.setTs_seq (v : TransportState) (s : State) : (s.setTs v).seq = s.seq := rfl
@[simp] theorem State.setTs_done (v : TransportState) (s : State) : (s.setTs v).done = s.done := rfl
@[simp] theorem State.setTs_engine (v : TransportState) (s : State) : (s.setTs v).engine = s.engine := rfl
@[simp] theorem State.setTs_req (v : TransportState) (s : State) : (s.setTs v).req = s.req := rfl
@[simp] theorem State.setTs_result (v : TransportState) (s : State) : (s.setTs v).result = s.result := rfl
@[simp] theorem State.setTs_errCode (v : TransportState) (s : State) : (s.setTs v).errCode = s.errCode := rfl
@[simp] theorem State.setTs_errInfo (v : TransportState) (s : State) : (s.setTs v).errInfo = s.errInfo := rfl
@[simp] theorem State.setTs_lastComp (v : TransportState) (s : State) : (s.setTs v).lastComp = s.lastComp := rfl
@[simp] theorem State.setTs_compValid (v : TransportState) (s : State) : (s.setTs v).compValid = s.compValid := rfl
@[simp] theorem State.setTs_cache (v : TransportState) (s : State) : (s.setTs v).cache = s.cache := rfl
@[simp] theorem State.setTs_main (v : TransportState) (s : State) : (s.setTs v).main = s.main := rfl
@[simp] theorem State.setTs_labelProc (v : TransportState) (s : State) : (s.setTs v).labelProc = s.labelProc := rfl
@[simp] theorem State.setTs_clk (v : TransportState) (s : State) : (s.setTs v).clk = s.clk := rfl
@[simp] theorem State.setTs_rawStb (v : TransportState) (s : State) : (s.setTs v).rawStb = s.rawStb := rfl
@[simp] theorem State.setTs_lineIn (v : TransportState) (s : State) : (s.setTs v).lineIn = s.lineIn := rfl
@[simp] theorem State.setTs_params (v : TransportState) (s : State) : (s.setTs v).params = s.params := rfl
@[simp] theorem State.setTs_script (v : TransportState) (s : State) : (s.setTs v).script = s.script := rfl
@[simp] theorem State.setTs_instant (v : TransportState) (s : State) : (s.setTs v).instant = s.instant := rfl

/-! ### setLabel -/

@[simp] theorem State.setLabel_pm (v : CommandLabel) (s : State) : (s.setLabel v).pm = s.pm := rfl
@[simp] theorem State.setLabel_pwr (v : CommandLabel) (s : State) : (s.setLabel v).pwr = s.pwr := rfl
@[simp] theorem State.setLabel_data (v : CommandLabel) (s : State) : (s.setLabel v).data = s.data := rfl
@[simp] theorem State.setLabel_sen (v : CommandLabel) (s : State) : (s.setLabel v).sen = s.sen := rfl
@[simp] theorem State.setLabel_gateOpen (v : CommandLabel) (s : State) : (s.setLabel v).gateOpen = s.gateOpen := rfl
@[simp] theorem State.setLabel_ts (v : CommandLabel) (s : State) : (s.setLabel v).ts = s.ts := rfl
@[simp] theorem State.setLabel_label (v : CommandLabel) (s : State) : (s.setLabel v).label = v := rfl
@[simp] theorem State.setLabel_seq (v : CommandLabel) (s : State) : (s.setLabel v).seq = s.seq := rfl
@[simp] theorem State.setLabel_done (v : CommandLabel) (s : State) : (s.setLabel v).done = s.done := rfl
@[simp] theorem State.setLabel_engine (v : CommandLabel) (s : State) : (s.setLabel v).engine = s.engine := rfl
@[simp] theorem State.setLabel_req (v : CommandLabel) (s : State) : (s.setLabel v).req = s.req := rfl
@[simp] theorem State.setLabel_result (v : CommandLabel) (s : State) : (s.setLabel v).result = s.result := rfl
@[simp] theorem State.setLabel_errCode (v : CommandLabel) (s : State) : (s.setLabel v).errCode = s.errCode := rfl
@[simp] theorem State.setLabel_errInfo (v : CommandLabel) (s : State) : (s.setLabel v).errInfo = s.errInfo := rfl
@[simp] theorem State.setLabel_lastComp (v : CommandLabel) (s : State) : (s.setLabel v).lastComp = s.lastComp := rfl
@[simp] theorem State.setLabel_compValid (v : CommandLabel) (s : State) : (s.setLabel v).compValid = s.compValid := rfl
@[simp] theorem State.setLabel_cache (v : CommandLabel) (s : State) : (s.setLabel v).cache = s.cache := rfl
@[simp] theorem State.setLabel_main (v : CommandLabel) (s : State) : (s.setLabel v).main = s.main := rfl
@[simp] theorem State.setLabel_labelProc (v : CommandLabel) (s : State) : (s.setLabel v).labelProc = s.labelProc := rfl
@[simp] theorem State.setLabel_clk (v : CommandLabel) (s : State) : (s.setLabel v).clk = s.clk := rfl
@[simp] theorem State.setLabel_rawStb (v : CommandLabel) (s : State) : (s.setLabel v).rawStb = s.rawStb := rfl
@[simp] theorem State.setLabel_lineIn (v : CommandLabel) (s : State) : (s.setLabel v).lineIn = s.lineIn := rfl
@[simp] theorem State.setLabel_params (v : CommandLabel) (s : State) : (s.setLabel v).params = s.params := rfl
@[simp] theorem State.setLabel_script (v : CommandLabel) (s : State) : (s.setLabel v).script = s.script := rfl
@[simp] theorem State.setLabel_instant (v : CommandLabel) (s : State) : (s.setLabel v).instant = s.instant := rfl

/-! ### setSeq -/

@[simp] theorem State.setSeq_pm (v : SequenceState) (s : State) : (s.setSeq v).pm = s.pm := rfl
@[simp] theorem State.setSeq_pwr (v : SequenceState) (s : State) : (s.setSeq v).pwr = s.pwr := rfl
@[simp] theorem State.setSeq_data (v : SequenceState) (s : State) : (s.setSeq v).data = s.data := rfl
@[simp] theorem State.setSeq_sen (v : SequenceState) (s : State) : (s.setSeq v).sen = s.sen := rfl
@[simp] theorem State.setSeq_gateOpen (v : SequenceState) (s : State) : (s.setSeq v).gateOpen = s.gateOpen := rfl
@[simp] theorem State.setSeq_ts (v : SequenceState) (s : State) : (s.setSeq v).ts = s.ts := rfl
@[simp] theorem State.setSeq_label (v : SequenceState) (s : State) : (s.setSeq v).label = s.label := rfl
@[simp] theorem State.setSeq_seq (v : SequenceState) (s : State) : (s.setSeq v).seq = v := rfl
@[simp] theorem State.setSeq_done (v : SequenceState) (s : State) : (s.setSeq v).done = s.done := rfl
@[simp] theorem State.setSeq_engine (v : SequenceState) (s : State) : (s.setSeq v).engine = s.engine := rfl
@[simp] theorem State.setSeq_req (v : SequenceState) (s : State) : (s.setSeq v).req = s.req := rfl
@[simp] theorem State.setSeq_result (v : SequenceState) (s : State) : (s.setSeq v).result = s.result := rfl
@[simp] theorem State.setSeq_errCode (v : SequenceState) (s : State) : (s.setSeq v).errCode = s.errCode := rfl
@[simp] theorem State.setSeq_errInfo (v : SequenceState) (s : State) : (s.setSeq v).errInfo = s.errInfo := rfl
@[simp] theorem State.setSeq_lastComp (v : SequenceState) (s : State) : (s.setSeq v).lastComp = s.lastComp := rfl
@[simp] theorem State.setSeq_compValid (v : SequenceState) (s : State) : (s.setSeq v).compValid = s.compValid := rfl
@[simp] theorem State.setSeq_cache (v : SequenceState) (s : State) : (s.setSeq v).cache = s.cache := rfl
@[simp] theorem State.setSeq_main (v : SequenceState) (s : State) : (s.setSeq v).main = s.main := rfl
@[simp] theorem State.setSeq_labelProc (v : SequenceState) (s : State) : (s.setSeq v).labelProc = s.labelProc := rfl
@[simp] theorem State.setSeq_clk (v : SequenceState) (s : State) : (s.setSeq v).clk = s.clk := rfl
@[simp] theorem State.setSeq_rawStb (v : SequenceState) (s : State) : (s.setSeq v).rawStb = s.rawStb := rfl
@[simp] theorem State.setSeq_lineIn (v : SequenceState) (s : State) : (s.setSeq v).lineIn = s.lineIn := rfl
@[simp] theorem State.setSeq_params (v : SequenceState) (s : State) : (s.setSeq v).params = s.params := rfl
@[simp] theorem State.setSeq_script (v : SequenceState) (s : State) : (s.setSeq v).script = s.script := rfl
@[simp] theorem State.setSeq_instant (v : SequenceState) (s : State) : (s.setSeq v).instant = s.instant := rfl

/-! ### setResult -/

@[simp] theorem State.setResult_pm (v : Word14) (s : State) : (s.setResult v).pm = s.pm := rfl
@[simp] theorem State.setResult_pwr (v : Word14) (s : State) : (s.setResult v).pwr = s.pwr := rfl
@[simp] theorem State.setResult_data (v : Word14) (s : State) : (s.setResult v).data = s.data := rfl
@[simp] theorem State.setResult_sen (v : Word14) (s : State) : (s.setResult v).sen = s.sen := rfl
@[simp] theorem State.setResult_gateOpen (v : Word14) (s : State) : (s.setResult v).gateOpen = s.gateOpen := rfl
@[simp] theorem State.setResult_ts (v : Word14) (s : State) : (s.setResult v).ts = s.ts := rfl
@[simp] theorem State.setResult_label (v : Word14) (s : State) : (s.setResult v).label = s.label := rfl
@[simp] theorem State.setResult_seq (v : Word14) (s : State) : (s.setResult v).seq = s.seq := rfl
@[simp] theorem State.setResult_done (v : Word14) (s : State) : (s.setResult v).done = s.done := rfl
@[simp] theorem State.setResult_engine (v : Word14) (s : State) : (s.setResult v).engine = s.engine := rfl
@[simp] theorem State.setResult_req (v : Word14) (s : State) : (s.setResult v).req = s.req := rfl
@[simp] theorem State.setResult_result (v : Word14) (s : State) : (s.setResult v).result = v := rfl
@[simp] theorem State.setResult_errCode (v : Word14) (s : State) : (s.setResult v).errCode = s.errCode := rfl
@[simp] theorem State.setResult_errInfo (v : Word14) (s : State) : (s.setResult v).errInfo = s.errInfo := rfl
@[simp] theorem State.setResult_lastComp (v : Word14) (s : State) : (s.setResult v).lastComp = s.lastComp := rfl
@[simp] theorem State.setResult_compValid (v : Word14) (s : State) : (s.setResult v).compValid = s.compValid := rfl
@[simp] theorem State.setResult_cache (v : Word14) (s : State) : (s.setResult v).cache = s.cache := rfl
@[simp] theorem State.setResult_main (v : Word14) (s : State) : (s.setResult v).main = s.main := rfl
@[simp] theorem State.setResult_labelProc (v : Word14) (s : State) : (s.setResult v).labelProc = s.labelProc := rfl
@[simp] theorem State.setResult_clk (v : Word14) (s : State) : (s.setResult v).clk = s.clk := rfl
@[simp] theorem State.setResult_rawStb (v : Word14) (s : State) : (s.setResult v).rawStb = s.rawStb := rfl
@[simp] theorem State.setResult_lineIn (v : Word14) (s : State) : (s.setResult v).lineIn = s.lineIn := rfl
@[simp] theorem State.setResult_params (v : Word14) (s : State) : (s.setResult v).params = s.params := rfl
@[simp] theorem State.setResult_script (v : Word14) (s : State) : (s.setResult v).script = s.script := rfl
@[simp] theorem State.setResult_instant (v : Word14) (s : State) : (s.setResult v).instant = s.instant := rfl

/-! ### setCache -/

@[simp] theorem State.setCache_pm (v : IdentityCache) (s : State) : (s.setCache v).pm = s.pm := rfl
@[simp] theorem State.setCache_pwr (v : IdentityCache) (s : State) : (s.setCache v).pwr = s.pwr := rfl
@[simp] theorem State.setCache_data (v : IdentityCache) (s : State) : (s.setCache v).data = s.data := rfl
@[simp] theorem State.setCache_sen (v : IdentityCache) (s : State) : (s.setCache v).sen = s.sen := rfl
@[simp] theorem State.setCache_gateOpen (v : IdentityCache) (s : State) : (s.setCache v).gateOpen = s.gateOpen := rfl
@[simp] theorem State.setCache_ts (v : IdentityCache) (s : State) : (s.setCache v).ts = s.ts := rfl
@[simp] theorem State.setCache_label (v : IdentityCache) (s : State) : (s.setCache v).label = s.label := rfl
@[simp] theorem State.setCache_seq (v : IdentityCache) (s : State) : (s.setCache v).seq = s.seq := rfl
@[simp] theorem State.setCache_done (v : IdentityCache) (s : State) : (s.setCache v).done = s.done := rfl
@[simp] theorem State.setCache_engine (v : IdentityCache) (s : State) : (s.setCache v).engine = s.engine := rfl
@[simp] theorem State.setCache_req (v : IdentityCache) (s : State) : (s.setCache v).req = s.req := rfl
@[simp] theorem State.setCache_result (v : IdentityCache) (s : State) : (s.setCache v).result = s.result := rfl
@[simp] theorem State.setCache_errCode (v : IdentityCache) (s : State) : (s.setCache v).errCode = s.errCode := rfl
@[simp] theorem State.setCache_errInfo (v : IdentityCache) (s : State) : (s.setCache v).errInfo = s.errInfo := rfl
@[simp] theorem State.setCache_lastComp (v : IdentityCache) (s : State) : (s.setCache v).lastComp = s.lastComp := rfl
@[simp] theorem State.setCache_compValid (v : IdentityCache) (s : State) : (s.setCache v).compValid = s.compValid := rfl
@[simp] theorem State.setCache_cache (v : IdentityCache) (s : State) : (s.setCache v).cache = v := rfl
@[simp] theorem State.setCache_main (v : IdentityCache) (s : State) : (s.setCache v).main = s.main := rfl
@[simp] theorem State.setCache_labelProc (v : IdentityCache) (s : State) : (s.setCache v).labelProc = s.labelProc := rfl
@[simp] theorem State.setCache_clk (v : IdentityCache) (s : State) : (s.setCache v).clk = s.clk := rfl
@[simp] theorem State.setCache_rawStb (v : IdentityCache) (s : State) : (s.setCache v).rawStb = s.rawStb := rfl
@[simp] theorem State.setCache_lineIn (v : IdentityCache) (s : State) : (s.setCache v).lineIn = s.lineIn := rfl
@[simp] theorem State.setCache_params (v : IdentityCache) (s : State) : (s.setCache v).params = s.params := rfl
@[simp] theorem State.setCache_script (v : IdentityCache) (s : State) : (s.setCache v).script = s.script := rfl
@[simp] theorem State.setCache_instant (v : IdentityCache) (s : State) : (s.setCache v).instant = s.instant := rfl

/-! ### setLabelProc -/

@[simp] theorem State.setLabelProc_pm (v : LabelProcess) (s : State) : (s.setLabelProc v).pm = s.pm := rfl
@[simp] theorem State.setLabelProc_pwr (v : LabelProcess) (s : State) : (s.setLabelProc v).pwr = s.pwr := rfl
@[simp] theorem State.setLabelProc_data (v : LabelProcess) (s : State) : (s.setLabelProc v).data = s.data := rfl
@[simp] theorem State.setLabelProc_sen (v : LabelProcess) (s : State) : (s.setLabelProc v).sen = s.sen := rfl
@[simp] theorem State.setLabelProc_gateOpen (v : LabelProcess) (s : State) : (s.setLabelProc v).gateOpen = s.gateOpen := rfl
@[simp] theorem State.setLabelProc_ts (v : LabelProcess) (s : State) : (s.setLabelProc v).ts = s.ts := rfl
@[simp] theorem State.setLabelProc_label (v : LabelProcess) (s : State) : (s.setLabelProc v).label = s.label := rfl
@[simp] theorem State.setLabelProc_seq (v : LabelProcess) (s : State) : (s.setLabelProc v).seq = s.seq := rfl
@[simp] theorem State.setLabelProc_done (v : LabelProcess) (s : State) : (s.setLabelProc v).done = s.done := rfl
@[simp] theorem State.setLabelProc_engine (v : LabelProcess) (s : State) : (s.setLabelProc v).engine = s.engine := rfl
@[simp] theorem State.setLabelProc_req (v : LabelProcess) (s : State) : (s.setLabelProc v).req = s.req := rfl
@[simp] theorem State.setLabelProc_result (v : LabelProcess) (s : State) : (s.setLabelProc v).result = s.result := rfl
@[simp] theorem State.setLabelProc_errCode (v : LabelProcess) (s : State) : (s.setLabelProc v).errCode = s.errCode := rfl
@[simp] theorem State.setLabelProc_errInfo (v : LabelProcess) (s : State) : (s.setLabelProc v).errInfo = s.errInfo := rfl
@[simp] theorem State.setLabelProc_lastComp (v : LabelProcess) (s : State) : (s.setLabelProc v).lastComp = s.lastComp := rfl
@[simp] theorem State.setLabelProc_compValid (v : LabelProcess) (s : State) : (s.setLabelProc v).compValid = s.compValid := rfl
@[simp] theorem State.setLabelProc_cache (v : LabelProcess) (s : State) : (s.setLabelProc v).cache = s.cache := rfl
@[simp] theorem State.setLabelProc_main (v : LabelProcess) (s : State) : (s.setLabelProc v).main = s.main := rfl
@[simp] theorem State.setLabelProc_labelProc (v : LabelProcess) (s : State) : (s.setLabelProc v).labelProc = v := rfl
@[simp] theorem State.setLabelProc_clk (v : LabelProcess) (s : State) : (s.setLabelProc v).clk = s.clk := rfl
@[simp] theorem State.setLabelProc_rawStb (v : LabelProcess) (s : State) : (s.setLabelProc v).rawStb = s.rawStb := rfl
@[simp] theorem State.setLabelProc_lineIn (v : LabelProcess) (s : State) : (s.setLabelProc v).lineIn = s.lineIn := rfl
@[simp] theorem State.setLabelProc_params (v : LabelProcess) (s : State) : (s.setLabelProc v).params = s.params := rfl
@[simp] theorem State.setLabelProc_script (v : LabelProcess) (s : State) : (s.setLabelProc v).script = s.script := rfl
@[simp] theorem State.setLabelProc_instant (v : LabelProcess) (s : State) : (s.setLabelProc v).instant = s.instant := rfl

/-! ### suspend -/

@[simp] theorem State.suspend_pm (p : Point) (k : List Frame) (s : State) : (s.suspend p k).pm = s.pm := rfl
@[simp] theorem State.suspend_pwr (p : Point) (k : List Frame) (s : State) : (s.suspend p k).pwr = s.pwr := rfl
@[simp] theorem State.suspend_data (p : Point) (k : List Frame) (s : State) : (s.suspend p k).data = s.data := rfl
@[simp] theorem State.suspend_sen (p : Point) (k : List Frame) (s : State) : (s.suspend p k).sen = s.sen := rfl
@[simp] theorem State.suspend_gateOpen (p : Point) (k : List Frame) (s : State) : (s.suspend p k).gateOpen = s.gateOpen := rfl
@[simp] theorem State.suspend_ts (p : Point) (k : List Frame) (s : State) : (s.suspend p k).ts = s.ts := rfl
@[simp] theorem State.suspend_label (p : Point) (k : List Frame) (s : State) : (s.suspend p k).label = s.label := rfl
@[simp] theorem State.suspend_seq (p : Point) (k : List Frame) (s : State) : (s.suspend p k).seq = s.seq := rfl
@[simp] theorem State.suspend_done (p : Point) (k : List Frame) (s : State) : (s.suspend p k).done = s.done := rfl
@[simp] theorem State.suspend_engine (p : Point) (k : List Frame) (s : State) : (s.suspend p k).engine = s.engine := rfl
@[simp] theorem State.suspend_req (p : Point) (k : List Frame) (s : State) : (s.suspend p k).req = s.req := rfl
@[simp] theorem State.suspend_result (p : Point) (k : List Frame) (s : State) : (s.suspend p k).result = s.result := rfl
@[simp] theorem State.suspend_errCode (p : Point) (k : List Frame) (s : State) : (s.suspend p k).errCode = s.errCode := rfl
@[simp] theorem State.suspend_errInfo (p : Point) (k : List Frame) (s : State) : (s.suspend p k).errInfo = s.errInfo := rfl
@[simp] theorem State.suspend_lastComp (p : Point) (k : List Frame) (s : State) : (s.suspend p k).lastComp = s.lastComp := rfl
@[simp] theorem State.suspend_compValid (p : Point) (k : List Frame) (s : State) : (s.suspend p k).compValid = s.compValid := rfl
@[simp] theorem State.suspend_cache (p : Point) (k : List Frame) (s : State) : (s.suspend p k).cache = s.cache := rfl
@[simp] theorem State.suspend_main (p : Point) (k : List Frame) (s : State) : (s.suspend p k).main = some ⟨p, k⟩ := rfl
@[simp] theorem State.suspend_labelProc (p : Point) (k : List Frame) (s : State) : (s.suspend p k).labelProc = s.labelProc := rfl
@[simp] theorem State.suspend_clk (p : Point) (k : List Frame) (s : State) : (s.suspend p k).clk = s.clk := rfl
@[simp] theorem State.suspend_rawStb (p : Point) (k : List Frame) (s : State) : (s.suspend p k).rawStb = s.rawStb := rfl
@[simp] theorem State.suspend_lineIn (p : Point) (k : List Frame) (s : State) : (s.suspend p k).lineIn = s.lineIn := rfl
@[simp] theorem State.suspend_params (p : Point) (k : List Frame) (s : State) : (s.suspend p k).params = s.params := rfl
@[simp] theorem State.suspend_script (p : Point) (k : List Frame) (s : State) : (s.suspend p k).script = s.script := rfl
@[simp] theorem State.suspend_instant (p : Point) (k : List Frame) (s : State) : (s.suspend p k).instant = s.instant := rfl

/-! ### raise -/

@[simp] theorem State.raise_pm (c : ErrorCode) (x : BitVec 32) (s : State) : (s.raise c x).pm = s.pm := rfl
@[simp] theorem State.raise_pwr (c : ErrorCode) (x : BitVec 32) (s : State) : (s.raise c x).pwr = s.pwr := rfl
@[simp] theorem State.raise_data (c : ErrorCode) (x : BitVec 32) (s : State) : (s.raise c x).data = s.data := rfl
@[simp] theorem State.raise_sen (c : ErrorCode) (x : BitVec 32) (s : State) : (s.raise c x).sen = s.sen := rfl
@[simp] theorem State.raise_gateOpen (c : ErrorCode) (x : BitVec 32) (s : State) : (s.raise c x).gateOpen = s.gateOpen := rfl
@[simp] theorem State.raise_ts (c : ErrorCode) (x : BitVec 32) (s : State) : (s.raise c x).ts = s.ts := rfl
@[simp] theorem State.raise_label (c : ErrorCode) (x : BitVec 32) (s : State) : (s.raise c x).label = s.label := rfl
@[simp] theorem State.raise_seq (c : ErrorCode) (x : BitVec 32) (s : State) : (s.raise c x).seq = s.seq := rfl
@[simp] theorem State.raise_done (c : ErrorCode) (x : BitVec 32) (s : State) : (s.raise c x).done = s.done := rfl
@[simp] theorem State.raise_engine (c : ErrorCode) (x : BitVec 32) (s : State) : (s.raise c x).engine = .faulted := rfl
@[simp] theorem State.raise_req (c : ErrorCode) (x : BitVec 32) (s : State) : (s.raise c x).req = s.req := rfl
@[simp] theorem State.raise_result (c : ErrorCode) (x : BitVec 32) (s : State) : (s.raise c x).result = s.result := rfl
@[simp] theorem State.raise_errCode (c : ErrorCode) (x : BitVec 32) (s : State) : (s.raise c x).errCode = c := rfl
@[simp] theorem State.raise_errInfo (c : ErrorCode) (x : BitVec 32) (s : State) : (s.raise c x).errInfo = x := rfl
@[simp] theorem State.raise_lastComp (c : ErrorCode) (x : BitVec 32) (s : State) : (s.raise c x).lastComp = s.lastComp := rfl
@[simp] theorem State.raise_compValid (c : ErrorCode) (x : BitVec 32) (s : State) : (s.raise c x).compValid = s.compValid := rfl
@[simp] theorem State.raise_cache (c : ErrorCode) (x : BitVec 32) (s : State) : (s.raise c x).cache = s.cache := rfl
@[simp] theorem State.raise_main (c : ErrorCode) (x : BitVec 32) (s : State) : (s.raise c x).main = none := rfl
@[simp] theorem State.raise_labelProc (c : ErrorCode) (x : BitVec 32) (s : State) : (s.raise c x).labelProc = .idle := rfl
@[simp] theorem State.raise_clk (c : ErrorCode) (x : BitVec 32) (s : State) : (s.raise c x).clk = s.clk := rfl
@[simp] theorem State.raise_rawStb (c : ErrorCode) (x : BitVec 32) (s : State) : (s.raise c x).rawStb = s.rawStb := rfl
@[simp] theorem State.raise_lineIn (c : ErrorCode) (x : BitVec 32) (s : State) : (s.raise c x).lineIn = s.lineIn := rfl
@[simp] theorem State.raise_params (c : ErrorCode) (x : BitVec 32) (s : State) : (s.raise c x).params = s.params := rfl
@[simp] theorem State.raise_script (c : ErrorCode) (x : BitVec 32) (s : State) : (s.raise c x).script = s.script := rfl
@[simp] theorem State.raise_instant (c : ErrorCode) (x : BitVec 32) (s : State) : (s.raise c x).instant = s.instant := rfl

/-! ### complete -/

@[simp] theorem State.complete_pm (s : State) : s.complete.pm = s.pm := rfl
@[simp] theorem State.complete_pwr (s : State) : s.complete.pwr = s.pwr := rfl
@[simp] theorem State.complete_data (s : State) : s.complete.data = s.data := rfl
@[simp] theorem State.complete_sen (s : State) : s.complete.sen = s.sen := rfl
@[simp] theorem State.complete_gateOpen (s : State) : s.complete.gateOpen = s.gateOpen := rfl
@[simp] theorem State.complete_ts (s : State) : s.complete.ts = s.ts := rfl
@[simp] theorem State.complete_label (s : State) : s.complete.label = s.label := rfl
@[simp] theorem State.complete_seq (s : State) : s.complete.seq = s.seq := rfl
@[simp] theorem State.complete_done (s : State) : s.complete.done = true := rfl
@[simp] theorem State.complete_engine (s : State) : s.complete.engine = .idle := rfl
@[simp] theorem State.complete_req (s : State) : s.complete.req = s.req := rfl
@[simp] theorem State.complete_result (s : State) : s.complete.result = s.result := rfl
@[simp] theorem State.complete_errCode (s : State) : s.complete.errCode = s.errCode := rfl
@[simp] theorem State.complete_errInfo (s : State) : s.complete.errInfo = s.errInfo := rfl
@[simp] theorem State.complete_lastComp (s : State) : s.complete.lastComp = s.lastComp := rfl
@[simp] theorem State.complete_compValid (s : State) : s.complete.compValid = s.compValid := rfl
@[simp] theorem State.complete_cache (s : State) : s.complete.cache = s.cache := rfl
@[simp] theorem State.complete_main (s : State) : s.complete.main = none := rfl
@[simp] theorem State.complete_labelProc (s : State) : s.complete.labelProc = s.labelProc := rfl
@[simp] theorem State.complete_clk (s : State) : s.complete.clk = s.clk := rfl
@[simp] theorem State.complete_rawStb (s : State) : s.complete.rawStb = s.rawStb := rfl
@[simp] theorem State.complete_lineIn (s : State) : s.complete.lineIn = s.lineIn := rfl
@[simp] theorem State.complete_params (s : State) : s.complete.params = s.params := rfl
@[simp] theorem State.complete_script (s : State) : s.complete.script = s.script := rfl
@[simp] theorem State.complete_instant (s : State) : s.complete.instant = s.instant := rfl

/-! ### setLevels -/

@[simp] theorem State.setLevels_pm (i : Input) (s : State) : (s.setLevels i).pm = s.pm := rfl
@[simp] theorem State.setLevels_pwr (i : Input) (s : State) : (s.setLevels i).pwr = s.pwr := rfl
@[simp] theorem State.setLevels_data (i : Input) (s : State) : (s.setLevels i).data = s.data := rfl
@[simp] theorem State.setLevels_sen (i : Input) (s : State) : (s.setLevels i).sen = s.sen := rfl
@[simp] theorem State.setLevels_gateOpen (i : Input) (s : State) : (s.setLevels i).gateOpen = s.gateOpen := rfl
@[simp] theorem State.setLevels_ts (i : Input) (s : State) : (s.setLevels i).ts = s.ts := rfl
@[simp] theorem State.setLevels_label (i : Input) (s : State) : (s.setLevels i).label = s.label := rfl
@[simp] theorem State.setLevels_seq (i : Input) (s : State) : (s.setLevels i).seq = s.seq := rfl
@[simp] theorem State.setLevels_done (i : Input) (s : State) : (s.setLevels i).done = s.done := rfl
@[simp] theorem State.setLevels_engine (i : Input) (s : State) : (s.setLevels i).engine = s.engine := rfl
@[simp] theorem State.setLevels_req (i : Input) (s : State) : (s.setLevels i).req = s.req := rfl
@[simp] theorem State.setLevels_result (i : Input) (s : State) : (s.setLevels i).result = s.result := rfl
@[simp] theorem State.setLevels_errCode (i : Input) (s : State) : (s.setLevels i).errCode = s.errCode := rfl
@[simp] theorem State.setLevels_errInfo (i : Input) (s : State) : (s.setLevels i).errInfo = s.errInfo := rfl
@[simp] theorem State.setLevels_lastComp (i : Input) (s : State) : (s.setLevels i).lastComp = s.lastComp := rfl
@[simp] theorem State.setLevels_compValid (i : Input) (s : State) : (s.setLevels i).compValid = s.compValid := rfl
@[simp] theorem State.setLevels_cache (i : Input) (s : State) : (s.setLevels i).cache = s.cache := rfl
@[simp] theorem State.setLevels_main (i : Input) (s : State) : (s.setLevels i).main = s.main := rfl
@[simp] theorem State.setLevels_labelProc (i : Input) (s : State) : (s.setLevels i).labelProc = s.labelProc := rfl
@[simp] theorem State.setLevels_clk (i : Input) (s : State) : (s.setLevels i).clk = i.clk := rfl
@[simp] theorem State.setLevels_rawStb (i : Input) (s : State) : (s.setLevels i).rawStb = rawLevel s.params i := rfl
@[simp] theorem State.setLevels_lineIn (i : Input) (s : State) : (s.setLevels i).lineIn = i.lineIn := rfl
@[simp] theorem State.setLevels_params (i : Input) (s : State) : (s.setLevels i).params = s.params := rfl
@[simp] theorem State.setLevels_script (i : Input) (s : State) : (s.setLevels i).script = s.script := rfl
@[simp] theorem State.setLevels_instant (i : Input) (s : State) : (s.setLevels i).instant = s.instant := rfl

/-! ### gate -/

@[simp] theorem State.gate_pm (e : Events) (s : State) : (s.gate e).pm = s.pm := rfl
@[simp] theorem State.gate_pwr (e : Events) (s : State) : (s.gate e).pwr = s.pwr := rfl
@[simp] theorem State.gate_data (e : Events) (s : State) : (s.gate e).data = s.data := rfl
@[simp] theorem State.gate_sen (e : Events) (s : State) : (s.gate e).sen = s.sen := rfl
@[simp] theorem State.gate_gateOpen (e : Events) (s : State) : (s.gate e).gateOpen = (if gateRise e s then true else if gateFall e s then false else s.gateOpen) := rfl
@[simp] theorem State.gate_ts (e : Events) (s : State) : (s.gate e).ts = s.ts := rfl
@[simp] theorem State.gate_label (e : Events) (s : State) : (s.gate e).label = s.label := rfl
@[simp] theorem State.gate_seq (e : Events) (s : State) : (s.gate e).seq = s.seq := rfl
@[simp] theorem State.gate_done (e : Events) (s : State) : (s.gate e).done = s.done := rfl
@[simp] theorem State.gate_engine (e : Events) (s : State) : (s.gate e).engine = s.engine := rfl
@[simp] theorem State.gate_req (e : Events) (s : State) : (s.gate e).req = s.req := rfl
@[simp] theorem State.gate_result (e : Events) (s : State) : (s.gate e).result = s.result := rfl
@[simp] theorem State.gate_errCode (e : Events) (s : State) : (s.gate e).errCode = s.errCode := rfl
@[simp] theorem State.gate_errInfo (e : Events) (s : State) : (s.gate e).errInfo = s.errInfo := rfl
@[simp] theorem State.gate_lastComp (e : Events) (s : State) : (s.gate e).lastComp = s.lastComp := rfl
@[simp] theorem State.gate_compValid (e : Events) (s : State) : (s.gate e).compValid = s.compValid := rfl
@[simp] theorem State.gate_cache (e : Events) (s : State) : (s.gate e).cache = s.cache := rfl
@[simp] theorem State.gate_main (e : Events) (s : State) : (s.gate e).main = s.main := rfl
@[simp] theorem State.gate_labelProc (e : Events) (s : State) : (s.gate e).labelProc = s.labelProc := rfl
@[simp] theorem State.gate_clk (e : Events) (s : State) : (s.gate e).clk = s.clk := rfl
@[simp] theorem State.gate_rawStb (e : Events) (s : State) : (s.gate e).rawStb = s.rawStb := rfl
@[simp] theorem State.gate_lineIn (e : Events) (s : State) : (s.gate e).lineIn = s.lineIn := rfl
@[simp] theorem State.gate_params (e : Events) (s : State) : (s.gate e).params = s.params := rfl
@[simp] theorem State.gate_script (e : Events) (s : State) : (s.gate e).script = s.script := rfl
@[simp] theorem State.gate_instant (e : Events) (s : State) : (s.gate e).instant = s.instant := rfl

/-! ### notify -/

@[simp] theorem State.notify_pm (s : State) : s.notify.pm = s.pm := rfl
@[simp] theorem State.notify_pwr (s : State) : s.notify.pwr = s.pwr := rfl
@[simp] theorem State.notify_data (s : State) : s.notify.data = s.data := rfl
@[simp] theorem State.notify_sen (s : State) : s.notify.sen = s.sen := rfl
@[simp] theorem State.notify_gateOpen (s : State) : s.notify.gateOpen = s.gateOpen := rfl
@[simp] theorem State.notify_ts (s : State) : s.notify.ts = s.ts := rfl
@[simp] theorem State.notify_label (s : State) : s.notify.label = s.label := rfl
@[simp] theorem State.notify_seq (s : State) : s.notify.seq = s.seq := rfl
@[simp] theorem State.notify_done (s : State) : s.notify.done = s.done := rfl
@[simp] theorem State.notify_engine (s : State) : s.notify.engine = s.engine := rfl
@[simp] theorem State.notify_req (s : State) : s.notify.req = s.req := rfl
@[simp] theorem State.notify_result (s : State) : s.notify.result = s.result := rfl
@[simp] theorem State.notify_errCode (s : State) : s.notify.errCode = s.errCode := rfl
@[simp] theorem State.notify_errInfo (s : State) : s.notify.errInfo = s.errInfo := rfl
@[simp] theorem State.notify_lastComp (s : State) : s.notify.lastComp = s.composite := rfl
@[simp] theorem State.notify_compValid (s : State) : s.notify.compValid = (s.composite != s.lastComp) := rfl
@[simp] theorem State.notify_cache (s : State) : s.notify.cache = s.cache := rfl
@[simp] theorem State.notify_main (s : State) : s.notify.main = s.main := rfl
@[simp] theorem State.notify_labelProc (s : State) : s.notify.labelProc = s.labelProc := rfl
@[simp] theorem State.notify_clk (s : State) : s.notify.clk = s.clk := rfl
@[simp] theorem State.notify_rawStb (s : State) : s.notify.rawStb = s.rawStb := rfl
@[simp] theorem State.notify_lineIn (s : State) : s.notify.lineIn = s.lineIn := rfl
@[simp] theorem State.notify_params (s : State) : s.notify.params = s.params := rfl
@[simp] theorem State.notify_script (s : State) : s.notify.script = s.script := rfl
@[simp] theorem State.notify_instant (s : State) : s.notify.instant = s.instant := rfl

/-! ### consume -/

@[simp] theorem State.consume_pm (s : State) : s.consume.pm = s.pm := rfl
@[simp] theorem State.consume_pwr (s : State) : s.consume.pwr = s.pwr := rfl
@[simp] theorem State.consume_data (s : State) : s.consume.data = s.data := rfl
@[simp] theorem State.consume_sen (s : State) : s.consume.sen = s.sen := rfl
@[simp] theorem State.consume_gateOpen (s : State) : s.consume.gateOpen = s.gateOpen := rfl
@[simp] theorem State.consume_ts (s : State) : s.consume.ts = s.ts := rfl
@[simp] theorem State.consume_label (s : State) : s.consume.label = s.label := rfl
@[simp] theorem State.consume_seq (s : State) : s.consume.seq = s.seq := rfl
@[simp] theorem State.consume_done (s : State) : s.consume.done = s.done := rfl
@[simp] theorem State.consume_engine (s : State) : s.consume.engine = s.engine := rfl
@[simp] theorem State.consume_req (s : State) : s.consume.req = s.req := rfl
@[simp] theorem State.consume_result (s : State) : s.consume.result = s.result := rfl
@[simp] theorem State.consume_errCode (s : State) : s.consume.errCode = s.errCode := rfl
@[simp] theorem State.consume_errInfo (s : State) : s.consume.errInfo = s.errInfo := rfl
@[simp] theorem State.consume_lastComp (s : State) : s.consume.lastComp = s.lastComp := rfl
@[simp] theorem State.consume_compValid (s : State) : s.consume.compValid = s.compValid := rfl
@[simp] theorem State.consume_cache (s : State) : s.consume.cache = s.cache := rfl
@[simp] theorem State.consume_main (s : State) : s.consume.main = s.main := rfl
@[simp] theorem State.consume_labelProc (s : State) : s.consume.labelProc = s.labelProc := rfl
@[simp] theorem State.consume_clk (s : State) : s.consume.clk = s.clk := rfl
@[simp] theorem State.consume_rawStb (s : State) : s.consume.rawStb = s.rawStb := rfl
@[simp] theorem State.consume_lineIn (s : State) : s.consume.lineIn = s.lineIn := rfl
@[simp] theorem State.consume_params (s : State) : s.consume.params = s.params := rfl
@[simp] theorem State.consume_script (s : State) : s.consume.script = s.script.tail := rfl
@[simp] theorem State.consume_instant (s : State) : s.consume.instant = s.instant + 1 := rfl

/-! ### blockReset -/

@[simp] theorem State.blockReset_pm (s : State) : s.blockReset.pm = Line.reset := rfl
@[simp] theorem State.blockReset_pwr (s : State) : s.blockReset.pwr = Line.reset := rfl
@[simp] theorem State.blockReset_data (s : State) : s.blockReset.data = Line.reset := rfl
@[simp] theorem State.blockReset_sen (s : State) : s.blockReset.sen = Line.reset := rfl
@[simp] theorem State.blockReset_gateOpen (s : State) : s.blockReset.gateOpen = false := rfl
@[simp] theorem State.blockReset_ts (s : State) : s.blockReset.ts = .rest := rfl
@[simp] theorem State.blockReset_label (s : State) : s.blockReset.label = .none := rfl
@[simp] theorem State.blockReset_seq (s : State) : s.blockReset.seq = .uninitialized := rfl
@[simp] theorem State.blockReset_done (s : State) : s.blockReset.done = false := rfl
@[simp] theorem State.blockReset_engine (s : State) : s.blockReset.engine = .idle := rfl
@[simp] theorem State.blockReset_req (s : State) : s.blockReset.req = 0#32 := rfl
@[simp] theorem State.blockReset_result (s : State) : s.blockReset.result = 0#14 := rfl
@[simp] theorem State.blockReset_errCode (s : State) : s.blockReset.errCode = .none := rfl
@[simp] theorem State.blockReset_errInfo (s : State) : s.blockReset.errInfo = 0#32 := rfl
@[simp] theorem State.blockReset_lastComp (s : State) : s.blockReset.lastComp = 0#4 := rfl
@[simp] theorem State.blockReset_compValid (s : State) : s.blockReset.compValid = false := rfl
@[simp] theorem State.blockReset_cache (s : State) : s.blockReset.cache = IdentityCache.empty := rfl
@[simp] theorem State.blockReset_main (s : State) : s.blockReset.main = none := rfl
@[simp] theorem State.blockReset_labelProc (s : State) : s.blockReset.labelProc = .idle := rfl
@[simp] theorem State.blockReset_clk (s : State) : s.blockReset.clk = s.clk := rfl
@[simp] theorem State.blockReset_rawStb (s : State) : s.blockReset.rawStb = s.rawStb := rfl
@[simp] theorem State.blockReset_lineIn (s : State) : s.blockReset.lineIn = s.lineIn := rfl
@[simp] theorem State.blockReset_params (s : State) : s.blockReset.params = s.params := rfl
@[simp] theorem State.blockReset_script (s : State) : s.blockReset.script = s.script := rfl
@[simp] theorem State.blockReset_instant (s : State) : s.blockReset.instant = s.instant := rfl

/-! ### feed -/

@[simp] theorem State.feed_pm (i : Input) (s : State) : (s.feed i).pm = s.pm := rfl
@[simp] theorem State.feed_pwr (i : Input) (s : State) : (s.feed i).pwr = s.pwr := rfl
@[simp] theorem State.feed_data (i : Input) (s : State) : (s.feed i).data = s.data := rfl
@[simp] theorem State.feed_sen (i : Input) (s : State) : (s.feed i).sen = s.sen := rfl
@[simp] theorem State.feed_gateOpen (i : Input) (s : State) : (s.feed i).gateOpen = s.gateOpen := rfl
@[simp] theorem State.feed_ts (i : Input) (s : State) : (s.feed i).ts = s.ts := rfl
@[simp] theorem State.feed_label (i : Input) (s : State) : (s.feed i).label = s.label := rfl
@[simp] theorem State.feed_seq (i : Input) (s : State) : (s.feed i).seq = s.seq := rfl
@[simp] theorem State.feed_done (i : Input) (s : State) : (s.feed i).done = s.done := rfl
@[simp] theorem State.feed_engine (i : Input) (s : State) : (s.feed i).engine = s.engine := rfl
@[simp] theorem State.feed_req (i : Input) (s : State) : (s.feed i).req = s.req := rfl
@[simp] theorem State.feed_result (i : Input) (s : State) : (s.feed i).result = s.result := rfl
@[simp] theorem State.feed_errCode (i : Input) (s : State) : (s.feed i).errCode = s.errCode := rfl
@[simp] theorem State.feed_errInfo (i : Input) (s : State) : (s.feed i).errInfo = s.errInfo := rfl
@[simp] theorem State.feed_lastComp (i : Input) (s : State) : (s.feed i).lastComp = s.lastComp := rfl
@[simp] theorem State.feed_compValid (i : Input) (s : State) : (s.feed i).compValid = s.compValid := rfl
@[simp] theorem State.feed_cache (i : Input) (s : State) : (s.feed i).cache = s.cache := rfl
@[simp] theorem State.feed_main (i : Input) (s : State) : (s.feed i).main = s.main := rfl
@[simp] theorem State.feed_labelProc (i : Input) (s : State) : (s.feed i).labelProc = s.labelProc := rfl
@[simp] theorem State.feed_clk (i : Input) (s : State) : (s.feed i).clk = s.clk := rfl
@[simp] theorem State.feed_rawStb (i : Input) (s : State) : (s.feed i).rawStb = s.rawStb := rfl
@[simp] theorem State.feed_lineIn (i : Input) (s : State) : (s.feed i).lineIn = s.lineIn := rfl
@[simp] theorem State.feed_params (i : Input) (s : State) : (s.feed i).params = s.params := rfl
@[simp] theorem State.feed_script (i : Input) (s : State) : (s.feed i).script = i :: s.script := rfl
@[simp] theorem State.feed_instant (i : Input) (s : State) : (s.feed i).instant = s.instant := rfl

/-! ### force: only `ts` can change (R226) -/

@[simp] theorem State.force_pm (i : Input) (s : State) : (s.force i).pm = s.pm := by
  unfold State.force; split <;> [split; skip] <;> rfl
@[simp] theorem State.force_pwr (i : Input) (s : State) : (s.force i).pwr = s.pwr := by
  unfold State.force; split <;> [split; skip] <;> rfl
@[simp] theorem State.force_data (i : Input) (s : State) : (s.force i).data = s.data := by
  unfold State.force; split <;> [split; skip] <;> rfl
@[simp] theorem State.force_sen (i : Input) (s : State) : (s.force i).sen = s.sen := by
  unfold State.force; split <;> [split; skip] <;> rfl
@[simp] theorem State.force_gateOpen (i : Input) (s : State) : (s.force i).gateOpen = s.gateOpen := by
  unfold State.force; split <;> [split; skip] <;> rfl
@[simp] theorem State.force_label (i : Input) (s : State) : (s.force i).label = s.label := by
  unfold State.force; split <;> [split; skip] <;> rfl
@[simp] theorem State.force_seq (i : Input) (s : State) : (s.force i).seq = s.seq := by
  unfold State.force; split <;> [split; skip] <;> rfl
@[simp] theorem State.force_done (i : Input) (s : State) : (s.force i).done = s.done := by
  unfold State.force; split <;> [split; skip] <;> rfl
@[simp] theorem State.force_engine (i : Input) (s : State) : (s.force i).engine = s.engine := by
  unfold State.force; split <;> [split; skip] <;> rfl
@[simp] theorem State.force_req (i : Input) (s : State) : (s.force i).req = s.req := by
  unfold State.force; split <;> [split; skip] <;> rfl
@[simp] theorem State.force_result (i : Input) (s : State) : (s.force i).result = s.result := by
  unfold State.force; split <;> [split; skip] <;> rfl
@[simp] theorem State.force_errCode (i : Input) (s : State) : (s.force i).errCode = s.errCode := by
  unfold State.force; split <;> [split; skip] <;> rfl
@[simp] theorem State.force_errInfo (i : Input) (s : State) : (s.force i).errInfo = s.errInfo := by
  unfold State.force; split <;> [split; skip] <;> rfl
@[simp] theorem State.force_lastComp (i : Input) (s : State) : (s.force i).lastComp = s.lastComp := by
  unfold State.force; split <;> [split; skip] <;> rfl
@[simp] theorem State.force_compValid (i : Input) (s : State) : (s.force i).compValid = s.compValid := by
  unfold State.force; split <;> [split; skip] <;> rfl
@[simp] theorem State.force_cache (i : Input) (s : State) : (s.force i).cache = s.cache := by
  unfold State.force; split <;> [split; skip] <;> rfl
@[simp] theorem State.force_main (i : Input) (s : State) : (s.force i).main = s.main := by
  unfold State.force; split <;> [split; skip] <;> rfl
@[simp] theorem State.force_labelProc (i : Input) (s : State) : (s.force i).labelProc = s.labelProc := by
  unfold State.force; split <;> [split; skip] <;> rfl
@[simp] theorem State.force_clk (i : Input) (s : State) : (s.force i).clk = s.clk := by
  unfold State.force; split <;> [split; skip] <;> rfl
@[simp] theorem State.force_rawStb (i : Input) (s : State) : (s.force i).rawStb = s.rawStb := by
  unfold State.force; split <;> [split; skip] <;> rfl
@[simp] theorem State.force_lineIn (i : Input) (s : State) : (s.force i).lineIn = s.lineIn := by
  unfold State.force; split <;> [split; skip] <;> rfl
@[simp] theorem State.force_params (i : Input) (s : State) : (s.force i).params = s.params := by
  unfold State.force; split <;> [split; skip] <;> rfl
@[simp] theorem State.force_script (i : Input) (s : State) : (s.force i).script = s.script := by
  unfold State.force; split <;> [split; skip] <;> rfl
@[simp] theorem State.force_instant (i : Input) (s : State) : (s.force i).instant = s.instant := by
  unfold State.force; split <;> [split; skip] <;> rfl

/-! ### The calling operations and the composite -/

@[simp] theorem State.suspend_callers (p : Point) (k : List Frame) (s : State) : (s.suspend p k).callers = k := rfl
@[simp] theorem State.raise_callers (c : ErrorCode) (x : BitVec 32) (s : State) : (s.raise c x).callers = [] := rfl
@[simp] theorem State.complete_callers (s : State) : s.complete.callers = [] := rfl
@[simp] theorem State.notify_composite (s : State) : s.notify.composite = s.composite := rfl
@[simp] theorem Line.write_cur (l : Line) (v : Bool) : (l.write v).cur = l.cur := rfl
@[simp] theorem Line.write_pend (l : Line) (v : Bool) : (l.write v).pend = some v := rfl

/-- A committed line has nothing pending, and holds what was pending (R63). -/
theorem Line.commit_eq (l : Line) : l.commit = { cur := l.pend.getD l.cur, pend := none } := by
  unfold Line.commit
  rcases l with ⟨c, _ | p⟩ <;> rfl

@[simp] theorem Line.commit_pend (l : Line) : l.commit.pend = none := by rw [Line.commit_eq]
@[simp] theorem Line.commit_cur (l : Line) : l.commit.cur = l.pend.getD l.cur := by rw [Line.commit_eq]

end Sys2Proof.Machine
end

