-- ==== Sys2Proof/Laws/Bus.lean ====
section
/-! SUPPORT. What no process can change within an instant: the current values of the lines, the gate, the inputs, the
parameters, `req`, the composite last reported, the script. One lemma for each shared operation, up to the meanings and
step 7 of an instant. -/

namespace Sys2Proof.Machine

/-- `t` agrees with `s` on everything that the processes of an instant leave alone (R63, R65, R69, R81). -/
structure BusKept (s t : State) : Prop where
  pm : t.pm.cur = s.pm.cur
  pwr : t.pwr.cur = s.pwr.cur
  data : t.data.cur = s.data.cur
  sen : t.sen.cur = s.sen.cur
  gateOpen : t.gateOpen = s.gateOpen
  req : t.req = s.req
  lastComp : t.lastComp = s.lastComp
  compValid : t.compValid = s.compValid
  clk : t.clk = s.clk
  rawStb : t.rawStb = s.rawStb
  lineIn : t.lineIn = s.lineIn
  params : t.params = s.params
  script : t.script = s.script
  instant : t.instant = s.instant

theorem BusKept.refl (s : State) : BusKept s s :=
  ⟨rfl, rfl, rfl, rfl, rfl, rfl, rfl, rfl, rfl, rfl, rfl, rfl, rfl, rfl⟩

theorem BusKept.trans {s t u : State} (h : BusKept s t) (g : BusKept t u) : BusKept s u :=
  ⟨g.1.trans h.1, g.2.trans h.2, g.3.trans h.3, g.4.trans h.4, g.5.trans h.5, g.6.trans h.6, g.7.trans h.7,
   g.8.trans h.8, g.9.trans h.9, g.10.trans h.10, g.11.trans h.11, g.12.trans h.12, g.13.trans h.13, g.14.trans h.14⟩

/-- The composite is a function of what the processes leave alone (R74). -/
theorem BusKept.composite {s t : State} (h : BusKept s t) : t.composite = s.composite := by
  simp only [State.composite, h.pm, h.pwr, h.data, h.gateOpen]

/-! ### Updates -/

theorem busKept_writePm (v : Bool) (s : State) : BusKept s (s.writePm v) := by constructor <;> rfl
theorem busKept_writePwr (v : Bool) (s : State) : BusKept s (s.writePwr v) := by constructor <;> rfl
theorem busKept_writeData (v : Bool) (s : State) : BusKept s (s.writeData v) := by constructor <;> rfl
theorem busKept_writeSen (v : Bool) (s : State) : BusKept s (s.writeSen v) := by constructor <;> rfl
theorem busKept_setTs (v : TransportState) (s : State) : BusKept s (s.setTs v) := by constructor <;> rfl
theorem busKept_setSeq (v : SequenceState) (s : State) : BusKept s (s.setSeq v) := by constructor <;> rfl
theorem busKept_setResult (v : Word14) (s : State) : BusKept s (s.setResult v) := by constructor <;> rfl
theorem busKept_setCache (v : IdentityCache) (s : State) : BusKept s (s.setCache v) := by constructor <;> rfl
theorem busKept_setLabelProc (v : LabelProcess) (s : State) : BusKept s (s.setLabelProc v) := by constructor <;> rfl
theorem busKept_suspend (p : Point) (k : List Frame) (s : State) : BusKept s (s.suspend p k) := by constructor <;> rfl
theorem busKept_raise (c : ErrorCode) (x : BitVec 32) (s : State) : BusKept s (s.raise c x) := by constructor <;> rfl
theorem busKept_complete (s : State) : BusKept s s.complete := by constructor <;> rfl

/-! ### Layer 1 -/

/-- The state a progress answers, whether it waits or returns. -/
def Progress.state : Progress → State
  | .waits s => s
  | .returns _ s => s

/-- What follows a progress keeps what the progress and every return keep. -/
theorem BusKept.andThen {s : State} {p : Progress} {ret : WireFrame → State → State}
    (h : BusKept s p.state) (hr : ∀ x t, BusKept t (ret x t)) : BusKept s (p.andThen ret) := by
  cases p with
  | waits t => exact h
  | returns x t => exact h.trans (hr x t)

theorem busKept_callSendBits (v : WireFrame) (n : Nat) (k : List Frame) (s : State) :
    BusKept s (callSendBits v n k s) := by constructor <;> rfl

theorem busKept_callReadBits (n : Nat) (k : List Frame) (s : State) : BusKept s (callReadBits n k s) := by
  constructor <;> rfl

theorem busKept_sendBitEdge (v : WireFrame) (n j : Nat) (k : List Frame) (s : State) :
    BusKept s (sendBitEdge v n j k s).state := by
  unfold sendBitEdge; dsimp only; split <;> constructor <;> rfl

theorem busKept_readBitEdge (n j : Nat) (r : WireFrame) (k : List Frame) (s : State) :
    BusKept s (readBitEdge n j r k s).state := by
  unfold readBitEdge; dsimp only; split <;> constructor <;> rfl

theorem busKept_callRest (c : Nat) (k : List Frame) (s : State) : BusKept s (callRest c k s).state := by
  unfold callRest; split <;> constructor <;> rfl

theorem busKept_restLoopFrom (c i : Nat) (k : List Frame) (s : State) : BusKept s (restLoopFrom c i k s).state := by
  unfold restLoopFrom restExit; split <;> [split; skip] <;> constructor <;> rfl

theorem busKept_restFirstEdge (c : Nat) (k : List Frame) (s : State) : BusKept s (restFirstEdge c k s).state :=
  ((busKept_setTs .rest s).trans (busKept_writeData false _)).trans (busKept_restLoopFrom c 1 k _)

theorem busKept_restLoopEdge (c i : Nat) (k : List Frame) (s : State) : BusKept s (restLoopEdge c i k s).state :=
  busKept_restLoopFrom c (i + 1) k s

/-! ### Layer 2 -/

theorem busKept_callSendCommand (c : Cmd) (k : List Frame) (s : State) : BusKept s (callSendCommand c k s) := by
  unfold callSendCommand; split
  · exact busKept_raise _ _ s
  · exact busKept_callSendBits _ _ _ s

theorem busKept_callSendCommandAndData (c : Cmd) (d : Arg) (k : List Frame) (s : State) :
    BusKept s (callSendCommandAndData c d k s) := by
  unfold callSendCommandAndData; split <;> [skip; split]
  · exact busKept_raise _ _ s
  · exact busKept_raise _ _ s
  · exact busKept_callSendBits _ _ _ s

theorem busKept_callSendCommandAndByteData (c : Cmd) (d : Arg) (k : List Frame) (s : State) :
    BusKept s (callSendCommandAndByteData c d k s) := by
  unfold callSendCommandAndByteData; split <;> [skip; split]
  · exact busKept_raise _ _ s
  · exact busKept_raise _ _ s
  · exact busKept_callSendBits _ _ _ s

theorem busKept_callSendCommandAndReadData (c : Cmd) (k : List Frame) (s : State) :
    BusKept s (callSendCommandAndReadData c k s) := by
  unfold callSendCommandAndReadData; split
  · exact busKept_raise _ _ s
  · exact busKept_callSendBits _ _ _ s

theorem busKept_callSendCommandAndReadByteData (c : Cmd) (k : List Frame) (s : State) :
    BusKept s (callSendCommandAndReadByteData c k s) := by
  unfold callSendCommandAndReadByteData; split
  · exact busKept_raise _ _ s
  · exact busKept_callSendBits _ _ _ s

theorem busKept_checkFrameNext (p : Payload) (f : WireFrame) (s : State) : BusKept s (checkFrameNext p f s).state := by
  unfold checkFrameNext; split
  · exact busKept_raise _ _ s
  · exact BusKept.refl s

/-! ### Layer 3 -/

theorem busKept_callVerb (v : CommandLabel) {body : List Frame → State → State}
    (hb : ∀ k s, BusKept s (body k s)) (k : List Frame) (s : State) : BusKept s (callVerb v body k s) :=
  (busKept_setLabelProc _ s).trans (hb _ _)

theorem busKept_joinNext (x : WireFrame) (k : List Frame) (s : State) : BusKept s (joinNext x k s).state := by
  unfold joinNext; split <;> constructor <;> rfl

theorem busKept_runLabel (e : Events) (s : State) : BusKept s (s.runLabel e) := by
  unfold State.runLabel; split <;> [split; skip; skip] <;> constructor <;> rfl

theorem busKept_callLoadConfig (d : Arg) (k : List Frame) (s : State) : BusKept s (callLoadConfig d k s) :=
  busKept_callVerb _ (fun _ _ => busKept_callSendCommandAndData _ _ _ _) k s

theorem busKept_callLoadProgram (d : Arg) (k : List Frame) (s : State) : BusKept s (callLoadProgram d k s) :=
  busKept_callVerb _ (fun _ _ => busKept_callSendCommandAndData _ _ _ _) k s

theorem busKept_callLoadData (d : Arg) (k : List Frame) (s : State) : BusKept s (callLoadData d k s) :=
  busKept_callVerb _ (fun _ _ => busKept_callSendCommandAndByteData _ _ _ _) k s

theorem busKept_callIncrementAddress (k : List Frame) (s : State) : BusKept s (callIncrementAddress k s) :=
  busKept_callVerb _ (fun _ _ => busKept_callSendCommand _ _ _) k s

theorem busKept_callEndProgramming (k : List Frame) (s : State) : BusKept s (callEndProgramming k s) :=
  busKept_callVerb _ (fun _ _ => busKept_callSendCommand _ _ _) k s

theorem busKept_callReadProgram (k : List Frame) (s : State) : BusKept s (callReadProgram k s) :=
  busKept_callVerb _ (fun _ _ => busKept_callSendCommandAndReadData _ _ _) k s

theorem busKept_callReadData (k : List Frame) (s : State) : BusKept s (callReadData k s) :=
  busKept_callVerb _ (fun _ _ => busKept_callSendCommandAndReadByteData _ _ _) k s

theorem busKept_callBeginProgram (k : List Frame) (s : State) : BusKept s (callBeginProgram k s) :=
  busKept_callVerb _ (fun _ _ => busKept_callSendCommand _ _ _) k s

theorem busKept_callEraseProgram (k : List Frame) (s : State) : BusKept s (callEraseProgram k s) :=
  busKept_callVerb _ (fun _ _ => busKept_callSendCommand _ _ _) k s

theorem busKept_callEraseData (k : List Frame) (s : State) : BusKept s (callEraseData k s) :=
  busKept_callVerb _ (fun _ _ => busKept_callSendCommand _ _ _) k s

/-! ### Layer 4 -/

theorem busKept_callStart (k : List Frame) (s : State) : BusKept s (callStart k s) := by constructor <;> rfl

theorem busKept_callShutdown (k : List Frame) (s : State) : BusKept s (callShutdown k s) := by constructor <;> rfl

theorem busKept_branchEnds (x : WireFrame) (k : List Frame) (s : State) : BusKept s (branchEnds x k s).state := by
  unfold branchEnds; split <;> [split; skip]
  · exact busKept_raise _ _ s
  · exact busKept_joinNext _ _ s
  · exact busKept_joinNext _ _ s

theorem busKept_programVerify (d : Arg) (w : Word14) (k : List Frame) (s : State) :
    BusKept s (programVerify d w k s) := by
  unfold programVerify; split
  · exact busKept_raise _ _ s
  · exact busKept_callIncrementAddress _ s

theorem busKept_osccalLoop (i : Nat) (k : List Frame) (s : State) : BusKept s (osccalLoop i k s) := by
  unfold osccalLoop; split
  · exact busKept_callIncrementAddress _ s
  · exact busKept_callReadProgram _ s

theorem busKept_osccalStore (w : Word14) (s : State) : BusKept s (osccalStore w s).state := by
  unfold osccalStore; split
  · exact busKept_raise _ _ s
  · exact busKept_setCache _ s

theorem busKept_idSkipLoop (i : Nat) (v : FiveWords) (k : List Frame) (s : State) : BusKept s (idSkipLoop i v k s) := by
  unfold idSkipLoop; split
  · exact busKept_callIncrementAddress _ s
  · exact busKept_callReadProgram _ s

theorem busKept_idReadLoop (n : Nat) (v : FiveWords) (k : List Frame) (s : State) : BusKept s (idReadLoop n v k s) := by
  unfold idReadLoop; split
  · exact busKept_callReadProgram _ s
  · exact busKept_idSkipLoop _ _ _ s

theorem busKept_callBulkEraseDevice (k : List Frame) (s : State) : BusKept s (callBulkEraseDevice k s) := by
  unfold callBulkEraseDevice; split <;> [skip; split <;> [skip; split]]
  · exact busKept_raise _ _ s
  · exact busKept_raise _ _ s
  · exact busKept_raise _ _ s
  · exact busKept_callEraseProgram _ s

theorem busKept_callSession (k : List Frame) (s : State) : BusKept s (callSession k s) :=
  (busKept_setCache _ s).trans (busKept_callShutdown _ _)

/-! ### The main process -/

/-- A return keeps the bus, however far it goes on in the calling operations. -/
theorem busKept_returnTo (k : List Frame) : ∀ (x : WireFrame) (s : State), BusKept s (returnTo k x s) := by
  induction k with
  | nil => intro x s; exact busKept_complete s
  | cons f k ih =>
    intro x s
    cases f with
    | sendFrame f => exact busKept_callSendBits _ _ _ s
    | readFrame p => exact busKept_callReadBits _ _ s
    | checkFrame p => exact (busKept_checkFrameNext p x s).andThen ih
    | timedRest c => exact (busKept_callRest c k s).andThen ih
    | join => exact (busKept_branchEnds x k s).andThen ih
    | resetAfterShutdown => exact busKept_callStart _ s
    | programAfterLoad d => exact busKept_callBeginProgram _ s
    | programAfterBegin d => exact busKept_callReadProgram _ s
    | programAfterRead d => exact busKept_programVerify _ _ _ s
    | osccalAfterReset => exact busKept_osccalLoop _ _ s
    | osccalAfterIncrement i => exact busKept_osccalLoop _ _ s
    | osccalAfterRead => exact (busKept_osccalStore _ s).andThen ih
    | idAfterReset => exact busKept_callLoadConfig _ _ s
    | idAfterConfig => exact busKept_idReadLoop _ _ _ s
    | idAfterRead n v => exact busKept_callIncrementAddress _ s
    | idAfterIncrement n v => exact busKept_idReadLoop _ _ _ s
    | idAfterSkip i v => exact busKept_idSkipLoop _ _ _ s
    | idAfterBandgap v => exact (busKept_setCache _ s).trans (ih _ _)
    | bulkAfterProgram => exact busKept_callEraseData _ s
    | cleanAfterOsccal => exact busKept_callShutdown _ s
    | cleanAfterId => exact busKept_callBulkEraseDevice _ s
    | sessionAfterClean => exact busKept_callShutdown _ s
    | writeResult => exact (busKept_setResult _ s).trans (ih _ _)
    | resetAfterStart => exact ih _ s
    | programAfterIncrement d w => exact ih _ s
    | bulkAfterData => exact ih _ s
    | cleanAfterBulk => exact ih _ s
    | sessionAfterShutdown => exact ih _ s

/-- A released process keeps the bus. -/
theorem busKept_goOn (p : Point) (k : List Frame) (s : State) : BusKept s (p.goOn k s) := by
  cases p with
  | dispatch => exact BusKept.refl s
  | transact w => exact BusKept.refl s
  | sendBit v n j => exact (busKept_sendBitEdge v n j k s).andThen (busKept_returnTo k)
  | readBit n j r => exact (busKept_readBitEdge n j r k s).andThen (busKept_returnTo k)
  | restFirst c => exact (busKept_restFirstEdge c k s).andThen (busKept_returnTo k)
  | restLoop c i => exact (busKept_restLoopEdge c i k s).andThen (busKept_returnTo k)
  | startSen => exact ((busKept_writeSen true s).trans (busKept_setSeq .running _)).trans (busKept_returnTo k _ _)
  | shutdownEnd => exact (busKept_setSeq .uninitialized s).trans (busKept_returnTo k _ _)
  | joining x => exact (busKept_joinNext x k s).andThen (busKept_returnTo k)
  | startPm => constructor <;> rfl
  | startPwr => constructor <;> rfl
  | shutdownData => constructor <;> rfl
  | shutdownPm => constructor <;> rfl
  | shutdownPwr => constructor <;> rfl

theorem busKept_resume (e : Events) (p : Process) (s : State) : BusKept s (resume e p s) := by
  unfold resume; split
  · exact busKept_goOn _ _ s
  · exact BusKept.refl s

/-- Every meaning answers a next state and keeps the bus. -/
theorem exec_busKept (i : Instr) (s : State) : ∃ t, exec i s = .next t ∧ BusKept s t := by
  cases i <;> refine ⟨_, rfl, ?_⟩
  case start => exact busKept_callStart _ s
  case shutdown => exact busKept_callShutdown _ s
  case reset => exact busKept_callShutdown _ s
  case programCycle => exact busKept_callLoadProgram _ _ s
  case readOsccal => exact busKept_callShutdown _ s
  case readIdBandgap => exact busKept_callShutdown _ s
  case bulkEraseDevice => exact busKept_callBulkEraseDevice _ s
  case cleanDevice => exact busKept_callShutdown _ s
  case session => exact busKept_callSession _ s
  case loadConfig => exact busKept_callLoadConfig _ _ s
  case loadProgram => exact busKept_callLoadProgram _ _ s
  case loadData => exact busKept_callLoadData _ _ s
  case incrementAddress => exact busKept_callIncrementAddress _ s
  case endProgramming => exact busKept_callEndProgramming _ s
  case readProgram => exact busKept_callReadProgram _ s
  case readData => exact busKept_callReadData _ s
  case beginProgram => exact busKept_callBeginProgram _ s
  case eraseProgram => exact busKept_callEraseProgram _ s
  case eraseData => exact busKept_callEraseData _ s
  case sendCmd => exact busKept_callSendCommand _ _ s
  case sendCmdData => exact busKept_callSendCommandAndData _ _ _ s
  case sendCmdByte => exact busKept_callSendCommandAndByteData _ _ _ s
  case sendCmdRead => exact busKept_callSendCommandAndReadData _ _ s
  case sendCmdReadByte => exact busKept_callSendCommandAndReadByteData _ _ s
  case rest => exact (busKept_callRest _ _ s).andThen (busKept_returnTo _)
  all_goals exact busKept_callSendBits _ _ _ s

/-- The main process at an instant answers a next state that keeps the bus, or stops at bits that are no transaction. -/
theorem runMain_busKept (e : Events) (s : State) :
    (∃ t, runMain e s = .next t ∧ BusKept s t) ∨ runMain e s = .fault .illegalTransaction := by
  unfold runMain
  split
  · exact .inl ⟨_, rfl, BusKept.refl s⟩
  · split
    · exact .inl (exec_busKept _ s)
    · exact .inl ⟨_, rfl, busKept_raise _ _ s⟩
  · split
    · exact .inl (exec_busKept _ s)
    · exact .inr rfl
  · exact .inl ⟨_, rfl, busKept_resume _ _ s⟩

theorem busKept_resumeJoin (s : State) : BusKept s s.resumeJoin := by
  unfold State.resumeJoin; split <;> [split; skip]
  · exact (busKept_joinNext _ _ s).andThen (busKept_returnTo _)
  · exact BusKept.refl s
  · exact BusKept.refl s

theorem busKept_publishAtFault (e : Events) (v : CommandLabel) (s : State) : BusKept s (s.publishAtFault e v) := by
  unfold State.publishAtFault; split <;> constructor <;> rfl

theorem busKept_labelAfterMain (e : Events) (before s : State) : BusKept s (labelAfterMain e before s) := by
  unfold labelAfterMain; split <;> [skip; skip; split]
  · exact BusKept.refl s
  · exact BusKept.refl s
  · exact busKept_publishAtFault e _ s
  · exact (busKept_runLabel e s).trans (busKept_resumeJoin _)

/-- Step 7 of an instant answers a next state that keeps the bus, or stops at bits that are no transaction. -/
theorem runProcesses_busKept (e : Events) (i : Input) (s : State) :
    (∃ t, runProcesses e i s = .next t ∧ BusKept s t) ∨ runProcesses e i s = .fault .illegalTransaction := by
  unfold runProcesses
  split
  · rcases runMain_busKept e s with ⟨t, ht, hk⟩ | hf
    · exact .inl ⟨_, by rw [ht]; rfl, hk.trans (busKept_labelAfterMain e s t)⟩
    · exact .inr (by rw [hf]; rfl)
  · rcases runMain_busKept e (s.runLabel e) with ⟨t, ht, hk⟩ | hf
    · exact .inl ⟨t, ht, (busKept_runLabel e s).trans hk⟩
    · exact .inr hf

end Sys2Proof.Machine
end

