-- ==== Sys2Proof/Laws/Operations.lean ====
section
/-! SUPPORT. What each shared operation does, said once: a call and an edge of the four layers either answers exactly one
of the listed results, with the condition under which it does. Proofs cite these and unfold nothing. -/

namespace Sys2Proof.Machine

/-! ### Layer 1 (R120, R123, R126 to R129) -/

theorem callSendBits_eq (v : WireFrame) (n : Nat) (k : List Frame) (s : State) :
    callSendBits v n k s = { s with ts := .tx, main := some { point := .sendBit v n 0, callers := k } } := rfl

theorem callReadBits_eq (n : Nat) (k : List Frame) (s : State) :
    callReadBits n k s = { s with ts := .rx, main := some { point := .readBit n 0 0#16, callers := k } } := rfl

theorem sendBitEdge_more {v : WireFrame} {n j : Nat} (k : List Frame) (s : State) (h : j + 1 < n) :
    sendBitEdge v n j k s = .waits ((s.writeData (v.getLsbD j)).suspend (.sendBit v n (j + 1)) k) := by
  unfold sendBitEdge; exact if_pos h

theorem sendBitEdge_last {v : WireFrame} {n j : Nat} (k : List Frame) (s : State) (h : n ≤ j + 1) :
    sendBitEdge v n j k s = .returns 0#16 (s.writeData (v.getLsbD j)) := by
  unfold sendBitEdge; exact if_neg (Nat.not_lt.mpr h)

theorem readBitEdge_more {n j : Nat} (r : WireFrame) (k : List Frame) (s : State) (h : j + 1 < n) :
    readBitEdge n j r k s =
      .waits ((s.writeData s.lineIn).suspend (.readBit n (j + 1) (setSample r j s.lineIn)) k) := by
  unfold readBitEdge; exact if_pos h

theorem readBitEdge_last {n j : Nat} (r : WireFrame) (k : List Frame) (s : State) (h : n ≤ j + 1) :
    readBitEdge n j r k s = .returns (setSample r j s.lineIn) (s.writeData s.lineIn) := by
  unfold readBitEdge; exact if_neg (Nat.not_lt.mpr h)

theorem callRest_zero (k : List Frame) (s : State) : callRest 0 k s = .returns 0#16 s := rfl

theorem callRest_pos {c : Nat} (k : List Frame) (s : State) (h : 1 ≤ c) :
    callRest c k s = .waits ((s.writeSen false).suspend (.restFirst c) k) := by
  unfold callRest; exact if_neg (Nat.not_lt.mpr h)

theorem restLoopFrom_waits {c i : Nat} (k : List Frame) {s : State} (h : i ≤ c - 1) (ht : s.ts = .rest) :
    restLoopFrom c i k s = .waits (s.suspend (.restLoop c i) k) := by
  unfold restLoopFrom; rw [if_pos h, if_neg (not_not_intro ht)]

theorem restLoopFrom_ends {c i : Nat} (k : List Frame) {s : State} (h : c - 1 < i ∨ s.ts ≠ .rest) :
    restLoopFrom c i k s = .returns 0#16 (s.writeSen true) := by
  unfold restLoopFrom restExit
  split
  · rename_i hi
    exact if_pos (h.resolve_left (Nat.not_lt.mpr hi))
  · rfl

/-! ### Layer 2 (R139 to R144) -/

theorem callSendCommand_cases (c : Cmd) (k : List Frame) (s : State) :
    (64 ≤ c.toNat ∧ callSendCommand c k s = s.raise .cmdWidth (c.setWidth 32)) ∨
    (c.toNat < 64 ∧ callSendCommand c k s = callSendBits ((c.setWidth 6).setWidth 16) 6 k s) := by
  unfold callSendCommand cmdTooWide
  by_cases h : 64 ≤ c.toNat
  · exact .inl ⟨h, if_pos (by simpa using h)⟩
  · exact .inr ⟨by omega, if_neg (by simpa using h)⟩

theorem callSendCommandAndData_cases (c : Cmd) (d : Arg) (k : List Frame) (s : State) :
    (64 ≤ c.toNat ∧ callSendCommandAndData c d k s = s.raise .cmdWidth (c.setWidth 32)) ∨
    (c.toNat < 64 ∧ 16384 ≤ d.toNat ∧ callSendCommandAndData c d k s = s.raise .dataWidth (d.setWidth 32)) ∨
    (c.toNat < 64 ∧ d.toNat < 16384 ∧
      callSendCommandAndData c d k s =
        callSendBits ((c.setWidth 6).setWidth 16) 6 (.sendFrame (writeFrame d) :: k) s) := by
  unfold callSendCommandAndData cmdTooWide wordTooWide
  by_cases h : 64 ≤ c.toNat
  · exact .inl ⟨h, if_pos (by simpa using h)⟩
  · rw [if_neg (by simpa using h)]
    by_cases g : 16384 ≤ d.toNat
    · exact .inr (.inl ⟨by omega, g, if_pos (by simpa using g)⟩)
    · exact .inr (.inr ⟨by omega, by omega, if_neg (by simpa using g)⟩)

theorem callSendCommandAndByteData_cases (c : Cmd) (d : Arg) (k : List Frame) (s : State) :
    (64 ≤ c.toNat ∧ callSendCommandAndByteData c d k s = s.raise .cmdWidth (c.setWidth 32)) ∨
    (c.toNat < 64 ∧ 256 ≤ d.toNat ∧ callSendCommandAndByteData c d k s = s.raise .byteWidth (d.setWidth 32)) ∨
    (c.toNat < 64 ∧ d.toNat < 256 ∧
      callSendCommandAndByteData c d k s =
        callSendBits ((c.setWidth 6).setWidth 16) 6 (.sendFrame (writeFrame d) :: k) s) := by
  unfold callSendCommandAndByteData cmdTooWide byteTooWide
  by_cases h : 64 ≤ c.toNat
  · exact .inl ⟨h, if_pos (by simpa using h)⟩
  · rw [if_neg (by simpa using h)]
    by_cases g : 256 ≤ d.toNat
    · exact .inr (.inl ⟨by omega, g, if_pos (by simpa using g)⟩)
    · exact .inr (.inr ⟨by omega, by omega, if_neg (by simpa using g)⟩)

theorem callSendCommandAndReadData_cases (c : Cmd) (k : List Frame) (s : State) :
    (64 ≤ c.toNat ∧ callSendCommandAndReadData c k s = s.raise .cmdWidth (c.setWidth 32)) ∨
    (c.toNat < 64 ∧
      callSendCommandAndReadData c k s = callSendBits ((c.setWidth 6).setWidth 16) 6 (.readFrame .word :: k) s) := by
  unfold callSendCommandAndReadData cmdTooWide
  by_cases h : 64 ≤ c.toNat
  · exact .inl ⟨h, if_pos (by simpa using h)⟩
  · exact .inr ⟨by omega, if_neg (by simpa using h)⟩

theorem callSendCommandAndReadByteData_cases (c : Cmd) (k : List Frame) (s : State) :
    (64 ≤ c.toNat ∧ callSendCommandAndReadByteData c k s = s.raise .cmdWidth (c.setWidth 32)) ∨
    (c.toNat < 64 ∧
      callSendCommandAndReadByteData c k s =
        callSendBits ((c.setWidth 6).setWidth 16) 6 (.readFrame .byte :: k) s) := by
  unfold callSendCommandAndReadByteData cmdTooWide
  by_cases h : 64 ≤ c.toNat
  · exact .inl ⟨h, if_pos (by simpa using h)⟩
  · exact .inr ⟨by omega, if_neg (by simpa using h)⟩

theorem checkFrameNext_cases (p : Payload) (f : WireFrame) (s : State) :
    (wellFramed f ∧ checkFrameNext p f s = .returns (payloadOf p f) s) ∨
    (¬ wellFramed f ∧ checkFrameNext p f s = .waits (s.raise .frame (f.setWidth 32))) := by
  unfold checkFrameNext badFraming wellFramed
  cases h0 : f.getLsbD 0 <;> cases h1 : f.getLsbD 15 <;> simp [infoOfFrame]

/-! ### Layer 3 (R161, R70) -/

theorem runLabel_waiting {e : Events} {s : State} {v : CommandLabel} (h : s.labelProc = .waiting v) :
    s.runLabel e = if e.clkRise then { s with label := v, labelProc := .finished } else s := by
  unfold State.runLabel; rw [h]; rfl

theorem runLabel_of_not_waiting {e : Events} {s : State} (h : s.labelProc.suspended = false) : s.runLabel e = s := by
  unfold State.runLabel
  cases hl : s.labelProc with
  | waiting v => rw [hl] at h; cases h
  | idle => rfl
  | finished => rfl

theorem joinNext_finished (x : WireFrame) (k : List Frame) {s : State} (h : s.labelProc = .finished) :
    joinNext x k s = .returns x { s with labelProc := .idle } := by
  unfold joinNext; rw [h]; rfl

theorem joinNext_waits (x : WireFrame) (k : List Frame) {s : State} (h : s.labelProc ≠ .finished) :
    joinNext x k s = .waits (s.suspend (.joining x) k) := by
  unfold joinNext
  cases hl : s.labelProc with
  | finished => exact absurd hl h
  | idle => rfl
  | waiting v => rfl

theorem callLoadConfig_cases (d : Arg) (k : List Frame) (s : State) :
    (16384 ≤ d.toNat ∧ callLoadConfig d k s = (s.setLabelProc (.waiting .loadConfig)).raise .dataWidth (d.setWidth 32)) ∨
    (d.toNat < 16384 ∧ callLoadConfig d k s =
      callSendBits 0x00#16 6 (.sendFrame (writeFrame d) :: .join :: k) (s.setLabelProc (.waiting .loadConfig))) := by
  rcases callSendCommandAndData_cases (CommandCode.asCmd .loadConfiguration) d (.join :: k)
    (s.setLabelProc (.waiting .loadConfig)) with ⟨h, -⟩ | ⟨-, h, e⟩ | ⟨-, h, e⟩
  · exact absurd h (by decide)
  · exact .inl ⟨h, e⟩
  · exact .inr ⟨h, e⟩

theorem callLoadProgram_cases (d : Arg) (k : List Frame) (s : State) :
    (16384 ≤ d.toNat ∧
      callLoadProgram d k s = (s.setLabelProc (.waiting .loadProgram)).raise .dataWidth (d.setWidth 32)) ∨
    (d.toNat < 16384 ∧ callLoadProgram d k s =
      callSendBits 0x02#16 6 (.sendFrame (writeFrame d) :: .join :: k) (s.setLabelProc (.waiting .loadProgram))) := by
  rcases callSendCommandAndData_cases (CommandCode.asCmd .loadDataForProgramMemory) d (.join :: k)
    (s.setLabelProc (.waiting .loadProgram)) with ⟨h, -⟩ | ⟨-, h, e⟩ | ⟨-, h, e⟩
  · exact absurd h (by decide)
  · exact .inl ⟨h, e⟩
  · exact .inr ⟨h, e⟩

theorem callLoadData_cases (d : Arg) (k : List Frame) (s : State) :
    (256 ≤ d.toNat ∧ callLoadData d k s = (s.setLabelProc (.waiting .loadData)).raise .byteWidth (d.setWidth 32)) ∨
    (d.toNat < 256 ∧ callLoadData d k s =
      callSendBits 0x03#16 6 (.sendFrame (writeFrame d) :: .join :: k) (s.setLabelProc (.waiting .loadData))) := by
  rcases callSendCommandAndByteData_cases (CommandCode.asCmd .loadDataForDataMemory) d (.join :: k)
    (s.setLabelProc (.waiting .loadData)) with ⟨h, -⟩ | ⟨-, h, e⟩ | ⟨-, h, e⟩
  · exact absurd h (by decide)
  · exact .inl ⟨h, e⟩
  · exact .inr ⟨h, e⟩

theorem callIncrementAddress_eq (k : List Frame) (s : State) :
    callIncrementAddress k s = callSendBits 0x06#16 6 (.join :: k) (s.setLabelProc (.waiting .incrementAddress)) := rfl

theorem callEndProgramming_eq (k : List Frame) (s : State) :
    callEndProgramming k s = callSendBits 0x0A#16 6 (.join :: k) (s.setLabelProc (.waiting .endProgramming)) := rfl

theorem callReadProgram_eq (k : List Frame) (s : State) :
    callReadProgram k s =
      callSendBits 0x04#16 6 (.readFrame .word :: .join :: k) (s.setLabelProc (.waiting .readProgram)) := rfl

theorem callReadData_eq (k : List Frame) (s : State) :
    callReadData k s =
      callSendBits 0x05#16 6 (.readFrame .byte :: .join :: k) (s.setLabelProc (.waiting .readData)) := rfl

theorem callBeginProgram_eq (k : List Frame) (s : State) :
    callBeginProgram k s =
      callSendBits 0x08#16 6 (.timedRest 3 :: .join :: k) (s.setLabelProc (.waiting .beginProgram)) := rfl

theorem callEraseProgram_eq (k : List Frame) (s : State) :
    callEraseProgram k s =
      callSendBits 0x09#16 6 (.timedRest 3 :: .join :: k) (s.setLabelProc (.waiting .eraseProgram)) := rfl

theorem callEraseData_eq (k : List Frame) (s : State) :
    callEraseData k s =
      callSendBits 0x0B#16 6 (.timedRest 3 :: .join :: k) (s.setLabelProc (.waiting .eraseData)) := rfl

/-! ### Layer 4 (R190 to R198) -/

theorem callStart_eq (k : List Frame) (s : State) :
    callStart k s = { s with pm := { s.pm with pend := some false }, pwr := { s.pwr with pend := some false },
                             data := { s.data with pend := some false }, sen := { s.sen with pend := some false },
                             main := some { point := .startPm, callers := k } } := rfl

theorem callShutdown_eq (k : List Frame) (s : State) :
    callShutdown k s = { s with seq := .shuttingDown, main := some { point := .shutdownData, callers := k } } := rfl

theorem readBackDiffers_iff (d : Arg) (w : Word14) : readBackDiffers d w = true ↔ w.toNat ≠ d.toNat := by
  rw [readBackDiffers, bne_iff_ne, ne_eq, ← BitVec.toNat_inj, BitVec.toNat_setWidth, Nat.mod_eq_of_lt (by omega)]

theorem branchEnds_cases (x : WireFrame) (k : List Frame) (s : State) :
    (∃ d c, k = .programAfterRead d :: c ∧ (x.setWidth 14).toNat ≠ d.toNat ∧
      branchEnds x k s = .waits (s.raise .faultyWrite (infoOfMismatch d (x.setWidth 14)))) ∨
    ((∀ d c, k = .programAfterRead d :: c → (x.setWidth 14).toNat = d.toNat) ∧
      branchEnds x k s = joinNext x k s) := by
  unfold branchEnds
  split
  · rename_i d c
    by_cases h : readBackDiffers d (x.setWidth 14) = true
    · exact .inl ⟨d, c, rfl, (readBackDiffers_iff d _).mp h, if_pos h⟩
    · refine .inr ⟨fun d' c' e => ?_, if_neg h⟩
      cases e
      exact Decidable.not_not.mp (fun g => h ((readBackDiffers_iff d _).mpr g))
  · rename_i h
    exact .inr ⟨fun d c e => absurd e (h d c), rfl⟩

theorem programVerify_cases (d : Arg) (w : Word14) (k : List Frame) (s : State) :
    (w.toNat = d.toNat ∧ programVerify d w k s = callIncrementAddress (.programAfterIncrement d w :: k) s) ∨
    (w.toNat ≠ d.toNat ∧ programVerify d w k s = s.raise .faultyWrite (infoOfMismatch d w)) := by
  unfold programVerify
  by_cases h : readBackDiffers d w = true
  · exact .inr ⟨(readBackDiffers_iff d w).mp h, if_pos h⟩
  · exact .inl ⟨Decidable.not_not.mp (fun g => h ((readBackDiffers_iff d w).mpr g)), if_neg h⟩

theorem osccalLoop_more {i : Nat} (k : List Frame) (s : State) (h : i ≤ 3) :
    osccalLoop i k s = callIncrementAddress (.osccalAfterIncrement i :: k) s := if_pos h

theorem osccalLoop_last {i : Nat} (k : List Frame) (s : State) (h : 3 < i) :
    osccalLoop i k s = callReadProgram (.osccalAfterRead :: k) s := if_neg (Nat.not_le.mpr h)

theorem osccalStore_cases (w : Word14) (s : State) :
    ((s.params.osccalCheck = false ∨ Config.osccalValid w = true) ∧
      osccalStore w s = .returns 0#16 (s.setCache { s.cache with osccal := w, osccalValid := true })) ∨
    (s.params.osccalCheck = true ∧ Config.osccalValid w = false ∧
      osccalStore w s = .waits (s.raise .invalidOsccal (w.setWidth 32))) := by
  unfold osccalStore
  cases h : s.params.osccalCheck <;> cases g : Config.osccalValid w <;> simp [infoOfWord]

theorem idReadLoop_more {n : Nat} (v : FiveWords) (k : List Frame) (s : State) (h : n < 4) :
    idReadLoop n v k s = callReadProgram (.idAfterRead n v :: k) s := if_pos h

theorem idReadLoop_last {n : Nat} (v : FiveWords) (k : List Frame) (s : State) (h : 4 ≤ n) :
    idReadLoop n v k s = callIncrementAddress (.idAfterSkip 1 v :: k) s := if_neg (Nat.not_lt.mpr h)

theorem idSkipLoop_more {i : Nat} (v : FiveWords) (k : List Frame) (s : State) (h : i ≤ 3) :
    idSkipLoop i v k s = callIncrementAddress (.idAfterSkip i v :: k) s := if_pos h

theorem idSkipLoop_last {i : Nat} (v : FiveWords) (k : List Frame) (s : State) (h : 3 < i) :
    idSkipLoop i v k s = callReadProgram (.idAfterBandgap v :: k) s := if_neg (Nat.not_le.mpr h)

theorem callBulkEraseDevice_cases (k : List Frame) (s : State) :
    (s.cache.osccalValid = false ∧ callBulkEraseDevice k s = s.raise .precondition 0) ∨
    (s.cache.osccalValid = true ∧ s.cache.idValid = false ∧ callBulkEraseDevice k s = s.raise .precondition 1) ∨
    (s.cache.osccalValid = true ∧ s.cache.idValid = true ∧ s.cache.bandgapValid = false ∧
      callBulkEraseDevice k s = s.raise .precondition 2) ∨
    (s.cache.osccalValid = true ∧ s.cache.idValid = true ∧ s.cache.bandgapValid = true ∧
      callBulkEraseDevice k s = callEraseProgram (.bulkAfterProgram :: k) s) := by
  unfold callBulkEraseDevice
  cases h : s.cache.osccalValid <;> cases g : s.cache.idValid <;> cases j : s.cache.bandgapValid <;>
    simp [infoOsccalMissing, infoIdMissing, infoBandgapMissing]

end Sys2Proof.Machine
end

