-- ==== Sys2Proof/Laws/Step.lean ====
section
/-! SUPPORT. What a step and each part of an instant can do, said once (R65, R221). -/

namespace Sys2Proof.Machine

/-- A state whose next input has been consumed without an instant. -/
theorem consume_feed (i : Input) (s : State) : (s.feed i).consume = { s with instant := s.instant + 1 } := rfl

@[simp] theorem nextInput_feed (i : Input) (s : State) : (s.feed i).nextInput = i := rfl

/-- A step on a given input is the instant that input makes. -/
theorem step_feed (i : Input) (s : State) : step (s.feed i) = instant i { s with instant := s.instant + 1 } := rfl

/-- Everything an instant can do when it answers a next state (R60, R65, R227): nothing, a block reset, or steps 2 to
8. -/
theorem instant_cases {i : Input} {s t : State} (h : instant i s = .next t) :
    ((levelEvents s i).any = false ∧ t = s) ∨
    ((levelEvents s i).any = true ∧ i.rst = true ∧ t = s.blockReset.setLevels i) ∨
    ((levelEvents s i).any = true ∧ i.rst = false ∧
      ∃ u, runProcesses (instantEvents i s) i (beforeProcesses i s) = .next u ∧ t = u.notify) := by
  unfold instant at h
  split at h
  · rename_i h1
    cases h
    exact .inl ⟨by simpa using h1, rfl⟩
  · rename_i h1
    split at h
    · rename_i h2
      cases h
      exact .inr (.inl ⟨by simpa using h1, h2, rfl⟩)
    · rename_i h2
      refine .inr (.inr ⟨by simpa using h1, by simpa using h2, ?_⟩)
      cases hr : runProcesses (instantEvents i s) i (beforeProcesses i s) with
      | next u => rw [hr] at h; cases h; exact ⟨u, rfl, rfl⟩
      | fault r => rw [hr] at h; cases h
      | refused r => rw [hr] at h; cases h

/-- Everything a step can do when it answers a next state. -/
theorem step_cases {s t : State} (h : step s = .next t) :
    ((levelEvents s.consume s.nextInput).any = false ∧ t = s.consume) ∨
    ((levelEvents s.consume s.nextInput).any = true ∧ s.nextInput.rst = true ∧
      t = s.consume.blockReset.setLevels s.nextInput) ∨
    ((levelEvents s.consume s.nextInput).any = true ∧ s.nextInput.rst = false ∧
      ∃ u, runProcesses (instantEvents s.nextInput s.consume) s.nextInput (beforeProcesses s.nextInput s.consume) =
        .next u ∧ t = u.notify) :=
  instant_cases h

/-- Everything acceptance can do (R108, R221). -/
theorem accept_cases (e : Events) (i : Input) (s : State) :
    (acceptable e i s = false ∧ s.accept e i = s) ∨
    (acceptable e i s = true ∧ requestIllegal i.reqWord = true ∧
      s.accept e i = ({ s with req := i.reqWord, done := false } : State).raise .illegalRequest i.reqWord) ∨
    (acceptable e i s = true ∧ requestIllegal i.reqWord = false ∧
      s.accept e i = { s with req := i.reqWord, done := false, engine := .busy,
                              main := some { point := .dispatch, callers := [] } }) := by
  unfold State.accept acceptRequest
  cases ha : acceptable e i s with
  | false => exact .inl ⟨rfl, by simp⟩
  | true =>
    cases hi : requestIllegal i.reqWord with
    | false => exact .inr (.inr ⟨rfl, rfl, by simp⟩)
    | true => exact .inr (.inl ⟨rfl, rfl, by simp⟩)

/-- A Busy or Faulted engine accepts nothing (R221, R254). -/
theorem accept_of_not_idle {e : Events} {i : Input} {s : State} (h : s.engine ≠ .idle) : s.accept e i = s := by
  unfold State.accept acceptable
  cases hs : s.engine <;> simp_all

/-- The state that a Busy or Faulted engine runs its processes on. -/
theorem beforeProcesses_of_not_idle {i : Input} {s : State} (h : s.engine ≠ .idle) :
    beforeProcesses i s = (((s.commit).setLevels i).gate (levelEvents s i)).force i := by
  unfold beforeProcesses
  exact accept_of_not_idle (by simpa using h)

/-- The state that an engine without an acceptable request runs its processes on. -/
theorem beforeProcesses_of_no_request {i : Input} {s : State} (h : i.reqValid = false) :
    beforeProcesses i s = (((s.commit).setLevels i).gate (levelEvents s i)).force i := by
  unfold beforeProcesses State.accept acceptable
  simp [h]

/-- With no label process suspended before the instant nothing is left after the main process (R68). -/
theorem labelAfterMain_of_not_waiting {e : Events} {before s : State} (h : before.labelProc.suspended = false) :
    labelAfterMain e before s = s := by
  unfold labelAfterMain
  cases hl : before.labelProc with
  | idle => rfl
  | finished => rfl
  | waiting v => rw [hl] at h; cases h

/-- A label process that the main process has left alone runs after it, and then the join (R68, R70). -/
theorem labelAfterMain_live {e : Events} {before s : State} (h : before.labelProc.suspended = true)
    (hs : s.labelProc ≠ .idle) : labelAfterMain e before s = (s.runLabel e).resumeJoin := by
  unfold labelAfterMain
  cases hl : before.labelProc with
  | idle => rw [hl] at h; cases h
  | finished => rw [hl] at h; cases h
  | waiting v => exact if_neg (by simpa using hs)

/-- What is published at a fault: the label, exactly if the clock rose in the instant (R174). -/
theorem publishAtFault_eq (e : Events) (v : CommandLabel) (s : State) :
    s.publishAtFault e v = { s with label := if e.clkRise then v else s.label } := by
  unfold State.publishAtFault
  cases e.clkRise <;> rfl

/-- A label process that a fault of its verb has ended in this instant (R68, R253). -/
theorem labelAfterMain_ended {e : Events} {before s : State} {v : CommandLabel} (h : before.labelProc = .waiting v)
    (hs : s.labelProc = .idle) : labelAfterMain e before s = s.publishAtFault e v := by
  unfold labelAfterMain
  rw [h]
  exact if_pos (by rw [hs]; rfl)

/-- With no main process and no label process suspended, an instant runs nothing in step 7. -/
theorem runProcesses_none {e : Events} {i : Input} {s : State} (hm : s.main = none) (hl : s.labelProc = .idle) :
    runProcesses e i s = .next s := by
  have h1 : runMain e s = .next s := by unfold runMain; rw [hm]
  have h2 : s.runLabel e = s := by unfold State.runLabel; rw [hl]
  have h3 : labelAfterMain e s s = s := labelAfterMain_of_not_waiting (by rw [hl]; rfl)
  unfold runProcesses
  split
  · rw [h1]; exact congrArg _ h3
  · rw [h2, h1]

/-- A run over joined inputs is the second run after the first. -/
theorem runOn_append (is js : List Input) (s : State) :
    runOn (is ++ js) s = (match runOn is s with
      | .next t => runOn js t
      | .fault r => .fault r
      | .refused r => .refused r) := by
  induction is generalizing s with
  | nil => rfl
  | cons i is ih =>
    simp only [List.cons_append, runOn]
    cases h : step (s.feed i) with
    | next t => exact ih t
    | fault r => rfl
    | refused r => rfl

end Sys2Proof.Machine
end

