-- ==== Sys2Proof/Laws/Locked.lean ====
section
/-! SUPPORT. Instants of a suspended main process, and runs under the LOCKED schedule (R62): what one tick does to each
kind of wait, and what the ticks of a whole `sendBits`, `readBits`, `rest`, `start` and `shutdown` do. -/

namespace Sys2Proof.Machine

/-! ### An instant with a suspended main process -/

/-- What an instant runs in step 7 when the main process is suspended at `p`. -/
def processed (e : Events) (i : Input) (p : Process) (s : State) : State :=
  if i.mainFirst then labelAfterMain e s (resume e p s) else resume e p (s.runLabel e)

/-- The main process of a Busy engine, suspended, at an instant. -/
theorem step_suspended {s : State} {i : Input} {p : Process} (hp : plainInstant i s = true) (hb : s.engine = .busy)
    (hm : s.main = some p) (hc : p.point.callee ≠ .request) :
    step (s.feed i) = .next (processed (instantEvents i s) i p (arrived i s)).notify := by
  obtain ⟨pt, k⟩ := p
  unfold plainInstant at hp
  rw [Bool.and_eq_true] at hp
  have hr : i.rst = false := by simpa using hp.2
  have hB : beforeProcesses i { s with instant := s.instant + 1 } = arrived i s :=
    (beforeProcesses_of_not_idle (by simp [hb])).trans rfl
  have hM : ∀ t : State, t.main = some { point := pt, callers := k } →
      runMain (instantEvents i s) t = .next (resume (instantEvents i s) { point := pt, callers := k } t) := by
    intro t ht
    unfold runMain
    rw [ht]
    cases pt <;> first | rfl | exact absurd rfl hc
  have hma : (arrived i s).main = some { point := pt, callers := k } := by
    have : (arrived i s).main = s.main := by
      simp [arrived]
    rw [this, hm]
  have hml : ((arrived i s).runLabel (instantEvents i s)).main = some { point := pt, callers := k } := by
    rw [← hma]
    unfold State.runLabel
    cases (arrived i s).labelProc with
    | waiting v => dsimp only; split <;> rfl
    | idle => rfl
    | finished => rfl
  rw [step_feed]
  unfold instant
  have hany : (levelEvents { s with instant := s.instant + 1 } i).any = true := hp.1
  rw [hany, hr, hB]
  have hev : instantEvents i { s with instant := s.instant + 1 } = instantEvents i s := rfl
  rw [hev]
  unfold runProcesses processed
  cases hf : i.mainFirst with
  | true => simp only [Bool.not_true, Bool.false_eq_true, if_false, if_true, hM _ hma]; rfl
  | false => simp only [Bool.not_true, Bool.false_eq_true, if_false, hM _ hml]; rfl

/-- With no label process waiting only the main process runs. -/
theorem processed_of_not_suspended {e : Events} {i : Input} {p : Process} {s : State}
    (h : s.labelProc.suspended = false) : processed e i p s = resume e p s := by
  unfold processed
  rw [runLabel_of_not_waiting h, labelAfterMain_of_not_waiting h]
  split <;> rfl

/-- A main process whose event has not come stays, and only the label process runs. -/
theorem processed_of_not_released {e : Events} {i : Input} {p : Process} {s : State} (hm : s.main = some p)
    (hj : p.point.callee ≠ .verb) (h : ∀ t : State, p.point.released e t = false) :
    processed e i p s = s.runLabel e := by
  have hr : ∀ t : State, resume e p t = t := fun t => by unfold resume; rw [h t]; rfl
  unfold processed
  rw [hr, hr]
  have hres : (s.runLabel e).resumeJoin = s.runLabel e := by
    have hml : (s.runLabel e).main = some p := by
      rw [← hm]
      unfold State.runLabel
      cases s.labelProc with
      | waiting v => dsimp only; split <;> rfl
      | idle => rfl
      | finished => rfl
    unfold State.resumeJoin
    rw [hml]
    obtain ⟨pt, k⟩ := p
    cases pt <;> first | rfl | exact absurd rfl hj
  cases hs : s.labelProc.suspended with
  | true =>
    rw [labelAfterMain_live hs (by intro h; rw [h] at hs; cases hs), hres]
    split <;> rfl
  | false =>
    rw [labelAfterMain_of_not_waiting hs, runLabel_of_not_waiting hs]
    split <;> rfl

/-! ### Returns -/

/-- What a return does depends on the calling operations, not on where the returning one stood. -/
theorem returnTo_suspend (k : List Frame) (x : WireFrame) (s : State) (p : Point) (c : List Frame) :
    returnTo k x (s.suspend p c) = returnTo k x s := by
  induction k generalizing x s with
  | nil => rfl
  | cons f k ih =>
    cases f with
    | checkFrame p' =>
      simp only [returnTo]
      rcases checkFrameNext_cases p' x s with ⟨h, e⟩ | ⟨h, e⟩ <;>
        rcases checkFrameNext_cases p' x (s.suspend p c) with ⟨h', e'⟩ | ⟨h', e'⟩ <;>
        first | exact absurd h h' | exact absurd h' h | (rw [e, e']; simp only [Progress.andThen]; first | exact ih _ _ | rfl)
    | timedRest n =>
      simp only [returnTo]
      by_cases h : 1 ≤ n
      · rw [callRest_pos _ _ h, callRest_pos _ _ h]; rfl
      · obtain rfl : n = 0 := by omega
        rw [callRest_zero, callRest_zero]; exact ih _ _
    | join =>
      simp only [returnTo]
      rcases branchEnds_cases x k s with ⟨d, c', hk, hd, e⟩ | ⟨hk, e⟩ <;>
        rcases branchEnds_cases x k (s.suspend p c) with ⟨d', c'', hk', hd', e'⟩ | ⟨hk', e'⟩
      · rw [e, e']
        rw [hk] at hk'
        cases hk'
        rfl
      · exact absurd (hk' d c' hk) hd
      · exact absurd (hk d' c'' hk') hd'
      rw [e, e']
      by_cases h : s.labelProc = .finished
      · rw [joinNext_finished _ _ h, joinNext_finished _ _ (s := s.suspend p c) h]; exact ih _ { s with labelProc := .idle }
      · rw [joinNext_waits _ _ h, joinNext_waits _ _ (s := s.suspend p c) h]; rfl
    | programAfterRead d =>
      simp only [returnTo]
      unfold programVerify
      split <;> rfl
    | osccalAfterRead =>
      simp only [returnTo]
      rcases osccalStore_cases (x.setWidth 14) s with ⟨h, e⟩ | ⟨h, g, e⟩ <;>
        rcases osccalStore_cases (x.setWidth 14) (s.suspend p c) with ⟨h', e'⟩ | ⟨h', g', e'⟩
      · rw [e, e']; exact ih _ (s.setCache { s.cache with osccal := x.setWidth 14, osccalValid := true })
      · rcases h with h | h
        · exact absurd (h.symm.trans h') (by decide)
        · exact absurd (h.symm.trans g') (by decide)
      · rcases h' with h' | h'
        · exact absurd (h.symm.trans h') (by decide)
        · exact absurd (h'.symm.trans g) (by decide)
      · rw [e, e']; rfl
    | cleanAfterId =>
      simp only [returnTo]
      unfold callBulkEraseDevice
      rw [State.suspend_cache]
      cases s.cache.osccalValid <;> cases s.cache.idValid <;> cases s.cache.bandgapValid <;> rfl
    | osccalAfterIncrement i => simp only [returnTo, osccalLoop]; split <;> rfl
    | osccalAfterReset => rfl
    | idAfterConfig => rfl
    | idAfterIncrement n v => simp only [returnTo, idReadLoop, idSkipLoop]; split <;> [rfl; split <;> rfl]
    | idAfterSkip i v => simp only [returnTo, idSkipLoop]; split <;> rfl
    | idAfterReset =>
      simp only [returnTo]
      rcases callLoadConfig_cases 0#16 (.idAfterConfig :: k) s with ⟨h, e⟩ | ⟨h, e⟩
      · exact absurd h (by decide)
      · rcases callLoadConfig_cases 0#16 (.idAfterConfig :: k) (s.suspend p c) with ⟨h', e'⟩ | ⟨h', e'⟩
        · exact absurd h' (by decide)
        · rw [e, e']; rfl
    | resetAfterStart => simp only [returnTo]; exact ih _ _
    | programAfterIncrement d w => simp only [returnTo]; exact ih _ _
    | bulkAfterData => simp only [returnTo]; exact ih _ _
    | cleanAfterBulk => simp only [returnTo]; exact ih _ _
    | sessionAfterShutdown => simp only [returnTo]; exact ih _ _
    | idAfterBandgap v => simp only [returnTo]; exact ih 0#16 (idStore (v.set 4 (x.setWidth 14)) s)
    | writeResult => simp only [returnTo]; exact ih x (s.setResult (x.setWidth 14))
    | _ => rfl

/-! ### Ticks -/

/-- What the ticks of a run change that no process writes. -/
structure Bus where
  hi : Bool
  gate : Bool
  line : Bool
  comp : BitVec 4
  valid : Bool
  count : Nat

/-- The state some ticks later, its pending writes committed, its processes untouched. -/
def State.later (b : Bus) (s : State) : State :=
  { s with pm := s.pm.commit, pwr := s.pwr.commit, data := s.data.commit, sen := s.sen.commit, clk := b.hi,
           rawStb := b.hi, gateOpen := b.gate, lineIn := b.line, lastComp := b.comp, compValid := b.valid,
           instant := b.count }

@[simp] theorem Line.commit_commit (l : Line) : l.commit.commit = l.commit := by
  obtain ⟨c, p⟩ := l
  cases p <;> rfl

@[simp] theorem Line.commit_of_pend (c v : Bool) :
    Line.commit { cur := c, pend := some v } = { cur := v, pend := none } := rfl

@[simp] theorem Line.commit_of_none (c : Bool) : Line.commit { cur := c, pend := none } = { cur := c, pend := none } :=
  rfl

theorem Line.commit_settled (l : Line) : l.commit = { cur := l.settled, pend := none } := by
  obtain ⟨c, p⟩ := l
  cases p <;> rfl

theorem Line.commit_cur_settled (l : Line) : l.commit.cur = l.settled := by rw [Line.commit_settled]

@[simp] theorem later_later (b c : Bus) (s : State) : (s.later b).later c = s.later c := by
  simp [State.later]

@[simp] theorem later_notify (b : Bus) (s : State) :
    (s.later b).notify = s.later { b with comp := (s.later b).composite, valid := (s.later b).composite != b.comp } :=
  rfl

@[simp] theorem later_of_notify (b : Bus) (s : State) : s.notify.later b = s.later b := rfl

theorem notify_later_eq (s : State) (b : Bus) : (s.notify).later b = s.later b := rfl

/-- The label a clock rise leaves. -/
def LabelProcess.publishes (p : LabelProcess) (old : CommandLabel) : CommandLabel :=
  match p with
  | .waiting v => v
  | .idle => old
  | .finished => old

/-- The label process after a clock rise. -/
def LabelProcess.ended (p : LabelProcess) : LabelProcess :=
  match p with
  | .waiting _ => .finished
  | .idle => .idle
  | .finished => .finished

/-- The label process's work at a clock rise: a waiting label is published. -/
def State.published (s : State) : State :=
  { s with label := s.labelProc.publishes s.label, labelProc := s.labelProc.ended }

theorem runLabel_of_rise {e : Events} (s : State) (h : e.clkRise = true) : s.runLabel e = s.published := by
  unfold State.runLabel State.published
  cases hl : s.labelProc with
  | waiting v => simp only [h, if_true]; rfl
  | idle => simp only [LabelProcess.publishes, LabelProcess.ended, ← hl]
  | finished => simp only [LabelProcess.publishes, LabelProcess.ended, ← hl]

theorem runLabel_of_no_rise {e : Events} (s : State) (h : e.clkRise = false) : s.runLabel e = s := by
  unfold State.runLabel
  cases s.labelProc <;> simp [h]

/-- A LOCKED input: both levels `h`, no reset, no force. -/
structure Ticks (h : Bool) (i : Input) : Prop where
  clk : i.clk = h
  raw : i.rawStb = h
  rst : i.rst = false
  force : i.tsForceValid = false

theorem lockedFrom_cons {c : Bool} {i : Input} {is : List Input} (h : lockedFrom c (i :: is) = true) :
    Ticks (!c) i ∧ lockedFrom (!c) is = true := by
  simp only [lockedFrom, Bool.and_eq_true, beq_iff_eq, Bool.not_eq_true'] at h
  exact ⟨⟨h.1.1.1.1, h.1.1.1.2, h.1.1.2, h.1.2⟩, h.2⟩

/-- Both clock inputs stand at the level `h`. -/
def State.levels (h : Bool) (s : State) : Prop := s.clk = h ∧ s.rawStb = h

theorem Ticks.rawLevel {h : Bool} {i : Input} (hi : Ticks h i) (p : Params) : rawLevel p i = h := by
  unfold Machine.rawLevel
  cases p.schedule with
  | free => exact hi.raw
  | locked => exact hi.clk

theorem Ticks.plain {h : Bool} {i : Input} {s : State} (hi : Ticks h i) (hs : s.levels (!h)) :
    plainInstant i s = true := by
  simp only [plainInstant, levelEvents, Events.any, hi.clk, hi.rst, hs.1, hs.2, hi.rawLevel]
  cases h <;> rfl

/-- The gate after a tick. -/
def gateAfter (h : Bool) (s : State) : Bool := h && (s.sen.settled || s.gateOpen)

theorem Ticks.arrived {h : Bool} {i : Input} {s : State} (hi : Ticks h i) (hs : s.levels (!h)) :
    arrived i s = s.later { hi := h, gate := gateAfter h s, line := i.lineIn, comp := s.lastComp, valid := s.compValid,
                            count := s.instant + 1 } := by
  obtain ⟨h1, h2⟩ := hs
  unfold Machine.arrived State.force
  rw [hi.force]
  simp only [Bool.and_false, Bool.false_eq_true, if_false]
  have hsen : s.sen.commit.cur = s.sen.settled := Line.commit_cur_settled _
  unfold State.later State.gate State.setLevels State.commit gateRise gateFall levelEvents gateAfter
  simp only [h2, hi.clk, hi.rawLevel, hsen]
  cases h <;> cases s.gateOpen <;> cases s.sen.settled <;> rfl

theorem Ticks.events {h : Bool} {i : Input} {s : State} (hi : Ticks h i) (hs : s.levels (!h)) :
    (instantEvents i s).clkRise = h ∧ (instantEvents i s).stbRise = (h && (s.sen.settled && !s.gateOpen)) ∧
    (instantEvents i s).stbFall = (!h && s.gateOpen) := by
  obtain ⟨h1, h2⟩ := hs
  have hsen : s.sen.commit.cur = s.sen.settled := Line.commit_cur_settled _
  unfold instantEvents gateEvents gateRise gateFall levelEvents
  simp only [h1, h2, hi.clk, hi.rawLevel, State.commit, hsen]
  cases h <;> simp

/-- The state that a tick brings to the processes. -/
theorem Ticks.later_eq {h : Bool} {i : Input} {s : State} (hi : Ticks h i) (hs : s.levels (!h)) :
    ∃ b : Bus, b.hi = h ∧ b.gate = gateAfter h s ∧ b.line = i.lineIn ∧ Machine.arrived i s = s.later b :=
  ⟨_, rfl, rfl, rfl, hi.arrived hs⟩

/-- The notification at the end of a tick is part of what the ticks change. -/
theorem notify_later (b : Bus) (s : State) :
    ∃ c : Bus, c.hi = b.hi ∧ c.gate = b.gate ∧ c.line = b.line ∧ (s.later b).notify = s.later c :=
  ⟨{ b with comp := (s.later b).composite, valid := (s.later b).composite != b.comp }, rfl, rfl, rfl, rfl⟩

@[simp] theorem published_later (b : Bus) (s : State) : (s.later b).published = (s.published).later b := rfl

@[simp] theorem published_writeData (v : Bool) (s : State) : (s.writeData v).published = s.published.writeData v := rfl

@[simp] theorem published_suspend (p : Point) (k : List Frame) (s : State) :
    (s.suspend p k).published = s.published.suspend p k := rfl

theorem published_of_not_suspended {s : State} (h : s.labelProc.suspended = false) : s.published = s := by
  unfold State.published
  cases hl : s.labelProc with
  | waiting v => rw [hl] at h; cases h
  | idle => simp only [LabelProcess.publishes, LabelProcess.ended, ← hl]
  | finished => simp only [LabelProcess.publishes, LabelProcess.ended, ← hl]

theorem published_not_suspended (s : State) : s.published.labelProc.suspended = false := by
  unfold State.published
  cases s.labelProc <;> rfl

@[simp] theorem published_published (s : State) : s.published.published = s.published :=
  published_of_not_suspended (published_not_suspended s)

/-- A falling tick at a wait for a rise changes nothing but what the ticks change. -/
theorem step_fall {s : State} {i : Input} {p : Process} (hi : Ticks false i) (hs : s.levels true)
    (hb : s.engine = .busy) (hm : s.main = some p) (hc : p.point.callee ≠ .request) (hv : p.point.callee ≠ .verb)
    (hr : p.point.callee ≠ .readBits) :
    ∃ b : Bus, b.hi = false ∧ b.gate = false ∧ step (s.feed i) = .next (s.later b) := by
  obtain ⟨b, b1, b2, -, hA⟩ := hi.later_eq hs
  obtain ⟨e1, e2, e3⟩ := hi.events hs
  obtain ⟨c, c1, c2, -, hN⟩ := notify_later b s
  refine ⟨c, c1.trans b1, c2.trans b2, ?_⟩
  rw [step_suspended (hi.plain hs) hb hm hc, hA]
  rw [processed_of_not_released (s := s.later b) (p := p) hm hv, runLabel_of_no_rise _ e1, hN]
  intro t
  obtain ⟨pt, k⟩ := p
  cases pt <;> first | rfl | exact e1 | exact absurd rfl hr | exact absurd rfl hv | (rw [Bool.false_and] at e2; exact e2)

/-- A process that goes on to a wait outside a join, at a rise. -/
theorem processed_rise {e : Events} {i : Input} {p q : Process} {s t : State} (he : e.clkRise = true)
    (hq : t.main = some q) (hj : q.point.callee ≠ .verb) (ht : t.labelProc = s.labelProc)
    (hres : resume e p s = t) (hres' : resume e p s.published = t.published) : processed e i p s = t.published := by
  unfold processed
  rw [runLabel_of_rise s he, hres, hres']
  have hJ : t.published.resumeJoin = t.published := by
    have : t.published.main = some q := by
      exact hq
    unfold State.resumeJoin
    rw [this]
    obtain ⟨pt, k⟩ := q
    cases pt <;> first | rfl | exact absurd rfl hj
  cases hs : s.labelProc.suspended with
  | true =>
    rw [labelAfterMain_live hs (by rw [ht]; intro h; rw [h] at hs; cases hs), runLabel_of_rise t he, hJ]
    split <;> rfl
  | false =>
    rw [labelAfterMain_of_not_waiting hs, published_of_not_suspended (ht ▸ hs)]
    split <;> rfl

/-- A rising tick at bit `k` of `sendBits`, not the last. -/
theorem step_rise_sendBit {s : State} {i : Input} {v : WireFrame} {n k : Nat} {c : List Frame} (hi : Ticks true i)
    (hs : s.levels false) (hg : s.gateOpen = false) (hsen : s.sen.settled = true) (hb : s.engine = .busy)
    (hm : s.main = some { point := .sendBit v n k, callers := c }) (hk : k + 1 < n) :
    ∃ b : Bus, b.hi = true ∧ b.gate = true ∧
      step (s.feed i) =
        .next (((s.published.later b).writeData (v.getLsbD k)).suspend (.sendBit v n (k + 1)) c) := by
  obtain ⟨b, b1, b2, -, hA⟩ := hi.later_eq hs
  obtain ⟨e1, e2, -⟩ := hi.events hs
  rw [hsen, hg] at e2
  refine ⟨{ b with comp := ((((s.published.later b).writeData (v.getLsbD k)).suspend (.sendBit v n (k + 1)) c)).composite,
                   valid := ((((s.published.later b).writeData (v.getLsbD k)).suspend (.sendBit v n (k + 1)) c)).composite != b.comp }, b1, ?_, ?_⟩
  · rw [b2]; unfold gateAfter; rw [hsen]; rfl
  rw [step_suspended (hi.plain hs) hb hm (by simp [Point.callee]), hA]
  have hres : ∀ t : State, resume (instantEvents i s) { point := .sendBit v n k, callers := c } t =
      (t.writeData (v.getLsbD k)).suspend (.sendBit v n (k + 1)) c := by
    intro t
    unfold resume Point.released
    simp only [e2, Bool.true_and, Bool.not_false, if_true, Point.goOn, sendBitEdge_more c t hk, Progress.andThen]
  rw [processed_rise (q := { point := .sendBit v n (k + 1), callers := c }) e1 rfl (by simp [Point.callee]) (by rfl)
    (hres _) (by rw [hres]; simp)]
  simp only [published_suspend, published_writeData, published_later]
  rfl

/-- A rising tick at the last bit of `sendBits`, its label already published. -/
theorem step_rise_sendBit_last {s : State} {i : Input} {v : WireFrame} {n k : Nat} {c : List Frame} (hi : Ticks true i)
    (hs : s.levels false) (hg : s.gateOpen = false) (hsen : s.sen.settled = true) (hb : s.engine = .busy)
    (hm : s.main = some { point := .sendBit v n k, callers := c }) (hk : n ≤ k + 1)
    (hl : s.labelProc.suspended = false) :
    ∃ b : Bus, b.hi = true ∧ b.gate = true ∧
      step (s.feed i) = .next (returnTo c 0#16 ((s.later b).writeData (v.getLsbD k))).notify := by
  obtain ⟨b, b1, b2, -, hA⟩ := hi.later_eq hs
  obtain ⟨e1, e2, -⟩ := hi.events hs
  rw [hsen, hg] at e2
  refine ⟨b, b1, ?_, ?_⟩
  · rw [b2]; unfold gateAfter; rw [hsen]; rfl
  rw [step_suspended (hi.plain hs) hb hm (by simp [Point.callee]), hA, processed_of_not_suspended (s := s.later b) hl]
  unfold resume Point.released
  simp only [e2, Bool.true_and, Bool.not_false, if_true, Point.goOn, sendBitEdge_last c _ hk, Progress.andThen]

/-! ### Runs -/

/-- The state with the data line as given. -/
def State.withData (l : Line) (s : State) : State := { s with data := l }

theorem runOn_cons_next {i : Input} {is : List Input} {s t : State} (h : step (s.feed i) = .next t) :
    runOn (i :: is) s = runOn is t := by
  simp only [runOn, h]

theorem writesBit_cons {i : Input} {is : List Input} {s t : State} {b : Bool} (h : step (s.feed i) = .next t) :
    writesBit (i :: is) s b ↔ writesBit is t b := by
  unfold writesBit
  rw [runOn_cons_next h]

/-- `sendBits` from its bit `k` on, `m` bits before the last, from a low tick: `2 * m + 1` ticks later it returns, every
bit before the last written at its own rise, the label published. -/
theorem run_sendBits_low (v : WireFrame) (n : Nat) (c : List Frame) :
    ∀ (m k : Nat) (s : State) (is : List Input), n = k + m + 1 → s.levels false → s.gateOpen = false →
      s.sen.settled = true → s.engine = .busy → s.main = some { point := .sendBit v n k, callers := c } →
      (m = 0 → s.labelProc.suspended = false) → lockedFrom false is = true → is.length = 2 * m + 1 →
      (∃ (b : Bus) (d : Bool), b.hi = true ∧ b.gate = true ∧
        runOn is s =
          .next (returnTo c 0#16 ((s.published.later b).withData { cur := d, pend := some (v.getLsbD (n - 1)) })).notify) ∧
      (∀ j, k ≤ j → j + 1 < n → writesBit (is.take (1 + 2 * (j - k))) s (v.getLsbD j)) := by
  intro m
  induction m with
  | zero =>
    intro k s is hn hs hg hsen hb hm hl hL hlen
    match is, hlen with
    | [i], _ =>
      obtain ⟨hi, -⟩ := lockedFrom_cons hL
      obtain ⟨b, b1, b2, hstep⟩ := step_rise_sendBit_last hi hs hg hsen hb hm (by omega) (hl rfl)
      refine ⟨⟨b, s.data.commit.cur, b1, b2, ?_⟩, fun j h1 h2 => by omega⟩
      rw [runOn_cons_next hstep, published_of_not_suspended (hl rfl)]
      obtain rfl : k = n - 1 := by omega
      rfl
  | succ m ih =>
    intro k s is hn hs hg hsen hb hm hl hL hlen
    match is, hlen with
    | i :: i' :: is', hlen =>
      obtain ⟨hi, hL'⟩ := lockedFrom_cons hL
      obtain ⟨hi', hL''⟩ := lockedFrom_cons hL'
      obtain ⟨b, b1, b2, hstep⟩ := step_rise_sendBit hi hs hg hsen hb hm (by omega)
      obtain ⟨b', b1', b2', hstep'⟩ := step_fall (s := ((s.published.later b).writeData (v.getLsbD k)).suspend (.sendBit v n (k + 1)) c)
        (p := { point := .sendBit v n (k + 1), callers := c }) hi' ⟨b1, b1⟩ hb rfl
        (by simp [Point.callee]) (by simp [Point.callee]) (by simp [Point.callee])
      have hsen' : (((s.published.later b).writeData (v.getLsbD k)).suspend (.sendBit v n (k + 1)) c |>.later b').sen.settled
          = true := by
        show (s.sen.commit.commit).settled = true
        rw [Line.commit_commit, Line.commit_settled, hsen]; rfl
      obtain ⟨⟨b'', d, h1, h2, h3⟩, h4⟩ := ih (k + 1)
        ((((s.published.later b).writeData (v.getLsbD k)).suspend (.sendBit v n (k + 1)) c).later b') is' (by omega)
        ⟨b1', b1'⟩ b2' hsen' hb rfl (fun _ => published_not_suspended s) hL''
        (by simp only [List.length_cons] at hlen; omega)
      refine ⟨⟨b'', d, h1, h2, ?_⟩, ?_⟩
      · rw [runOn_cons_next hstep, runOn_cons_next hstep', h3]
        rw [← returnTo_suspend c 0#16 ((s.published.later b'').withData _) (.sendBit v n (k + 1)) c]
        congr 3
        simp [State.later, State.published, State.withData, State.suspend, State.writeData]
        unfold LabelProcess.publishes LabelProcess.ended
        cases s.labelProc <;> simp
      · intro j hj hj'
        rcases Nat.eq_or_lt_of_le hj with rfl | hlt
        · rw [Nat.sub_self]
          refine (writesBit_cons hstep).mpr ⟨_, rfl, rfl⟩
        · obtain ⟨e, rfl⟩ : ∃ e, j = k + 1 + e := ⟨j - (k + 1), by omega⟩
          have : 1 + 2 * (k + 1 + e - k) = (1 + 2 * e) + 2 := by omega
          rw [this]
          show writesBit (i :: i' :: is'.take (1 + 2 * e)) s _
          rw [writesBit_cons hstep, writesBit_cons hstep']
          have := h4 (k + 1 + e) (by omega) hj'
          rwa [show k + 1 + e - (k + 1) = e by omega] at this

/-- The same from a high tick: `2 * m + 2` ticks. -/
theorem run_sendBits_high {v : WireFrame} {n : Nat} {c : List Frame} {m k : Nat} {s : State} {is : List Input}
    (hn : n = k + m + 1) (hs : s.levels true) (hsen : s.sen.settled = true) (hb : s.engine = .busy)
    (hm : s.main = some { point := .sendBit v n k, callers := c }) (hl : m = 0 → s.labelProc.suspended = false)
    (hL : lockedFrom true is = true) (hlen : is.length = 2 * m + 2) :
    (∃ (b : Bus) (d : Bool), b.hi = true ∧ b.gate = true ∧
      runOn is s =
        .next (returnTo c 0#16 ((s.published.later b).withData { cur := d, pend := some (v.getLsbD (n - 1)) })).notify) ∧
    (∀ j, k ≤ j → j + 1 < n → writesBit (is.take (2 + 2 * (j - k))) s (v.getLsbD j)) := by
  match is, hlen with
  | i :: is', hlen =>
    obtain ⟨hi, hL'⟩ := lockedFrom_cons hL
    obtain ⟨b, b1, b2, hstep⟩ := step_fall hi hs hb hm (by simp [Point.callee]) (by simp [Point.callee]) (by simp [Point.callee])
    have hsen' : (s.later b).sen.settled = true := by
      show (s.sen.commit).settled = true
      rw [Line.commit_settled, hsen]; rfl
    obtain ⟨⟨b'', d, h1, h2, h3⟩, h4⟩ := run_sendBits_low v n c m k (s.later b) is' hn ⟨b1, b1⟩ b2 hsen' hb hm hl hL'
      (by simp only [List.length_cons] at hlen; omega)
    refine ⟨⟨b'', d, h1, h2, ?_⟩, ?_⟩
    · rw [runOn_cons_next hstep, h3]
      simp
    · intro j hj hj'
      have := h4 j hj hj'
      rw [show 2 + 2 * (j - k) = (1 + 2 * (j - k)) + 1 by omega]
      exact (writesBit_cons hstep).mpr this


/-- A rising tick at a sample of `readBits`: nothing but what the ticks change. -/
theorem step_rise_readBit {s : State} {i : Input} {r : WireFrame} {n k : Nat} {c : List Frame} (hi : Ticks true i)
    (hs : s.levels false) (hsen : s.sen.settled = true) (hb : s.engine = .busy)
    (hm : s.main = some { point := .readBit n k r, callers := c }) (hl : s.labelProc.suspended = false) :
    ∃ b : Bus, b.hi = true ∧ b.gate = true ∧ step (s.feed i) = .next (s.later b) := by
  obtain ⟨b, b1, b2, -, hA⟩ := hi.later_eq hs
  obtain ⟨-, -, e3⟩ := hi.events hs
  obtain ⟨b', c1, c2, -, hN⟩ := notify_later b s
  refine ⟨b', c1.trans b1, ?_, ?_⟩
  · rw [c2, b2]; unfold gateAfter; rw [hsen]; rfl
  rw [step_suspended (hi.plain hs) hb hm (by simp [Point.callee]), hA,
    processed_of_not_suspended (s := s.later b) hl]
  have : resume (instantEvents i s) { point := .readBit n k r, callers := c } (s.later b) = s.later b := by
    unfold resume Point.released
    simp only [e3]
    rfl
  rw [this, hN]

/-- A falling tick at sample `k` of `readBits`, not the last. -/
theorem step_fall_readBit {s : State} {i : Input} {r : WireFrame} {n k : Nat} {c : List Frame} (hi : Ticks false i)
    (hs : s.levels true) (hg : s.gateOpen = true) (hb : s.engine = .busy)
    (hm : s.main = some { point := .readBit n k r, callers := c }) (hl : s.labelProc.suspended = false)
    (hk : k + 1 < n) :
    ∃ b : Bus, b.hi = false ∧ b.gate = false ∧
      step (s.feed i) =
        .next (((s.later b).writeData i.lineIn).suspend (.readBit n (k + 1) (setSample r k i.lineIn)) c) := by
  obtain ⟨b, b1, b2, b3, hA⟩ := hi.later_eq hs
  obtain ⟨-, -, e3⟩ := hi.events hs
  rw [hg] at e3
  refine ⟨{ b with comp := (s.later b).composite, valid := (s.later b).composite != b.comp }, b1, b2, ?_⟩
  rw [step_suspended (hi.plain hs) hb hm (by simp [Point.callee]), hA,
    processed_of_not_suspended (s := s.later b) hl]
  unfold resume Point.released
  simp only [e3, Bool.not_false, Bool.true_and, if_true, Point.goOn, readBitEdge_more r c _ hk, Progress.andThen]
  have hline : (s.later b).lineIn = i.lineIn := b3
  rw [hline]
  rfl

/-- A falling tick at the last sample of `readBits`. -/
theorem step_fall_readBit_last {s : State} {i : Input} {r : WireFrame} {n k : Nat} {c : List Frame} (hi : Ticks false i)
    (hs : s.levels true) (hg : s.gateOpen = true) (hb : s.engine = .busy)
    (hm : s.main = some { point := .readBit n k r, callers := c }) (hl : s.labelProc.suspended = false)
    (hk : n ≤ k + 1) :
    ∃ b : Bus, b.hi = false ∧ b.gate = false ∧
      step (s.feed i) = .next (returnTo c (setSample r k i.lineIn) ((s.later b).writeData i.lineIn)).notify := by
  obtain ⟨b, b1, b2, b3, hA⟩ := hi.later_eq hs
  obtain ⟨-, -, e3⟩ := hi.events hs
  rw [hg] at e3
  refine ⟨b, b1, b2, ?_⟩
  rw [step_suspended (hi.plain hs) hb hm (by simp [Point.callee]), hA,
    processed_of_not_suspended (s := s.later b) hl]
  unfold resume Point.released
  simp only [e3, Bool.not_false, Bool.true_and, if_true, Point.goOn, readBitEdge_last r c _ hk, Progress.andThen]
  have hline : (s.later b).lineIn = i.lineIn := b3
  rw [hline]

/-- The bits of an accumulator after a sample (R123). -/
theorem setSample_getLsbD (r : WireFrame) (k j : Nat) (b : Bool) (hj : j < 16) :
    (setSample r k b).getLsbD j = if j = k then b else r.getLsbD j := by
  unfold setSample
  simp only [BitVec.getLsbD_or, BitVec.getLsbD_and, BitVec.getLsbD_not, BitVec.getLsbD_shiftLeft]
  by_cases h : j = k
  · subst h
    cases b <;> simp [hj]
  · simp only [if_neg h]
    by_cases h' : j < k
    · cases b <;> simp [h', hj]
    · have : 0 < j - k := by omega
      have h1 : (1#16).getLsbD (j - k) = false := by
        rw [BitVec.getLsbD_one]
        simp; omega
      cases b <;> simp [h', hj, h1]

/-- `readBits` from its sample `k` on, `m` samples before the last, from a high tick with a pulse open: `2 * m + 1` ticks
later it returns the frame that the target has answered. -/
theorem run_readBits (f : WireFrame) (c : List Frame) :
    ∀ (m k : Nat) (r : WireFrame) (s : State) (is : List Input), 16 = k + m + 1 → s.levels true → s.gateOpen = true →
      s.sen.settled = true → s.engine = .busy → s.main = some { point := .readBit 16 k r, callers := c } →
      s.labelProc.suspended = false → (∀ j, j < 16 → r.getLsbD j = (decide (j < k) && f.getLsbD j)) →
      (∀ j, k ≤ j → j < 16 → (is[2 * (j - k)]?).map Input.lineIn = some (f.getLsbD j)) →
      lockedFrom true is = true → is.length = 2 * m + 1 →
      ∃ (b : Bus) (d : Bool), b.hi = false ∧ b.gate = false ∧
        runOn is s =
          .next (returnTo c f ((s.later b).withData { cur := d, pend := some (f.getLsbD 15) })).notify := by
  intro m
  induction m with
  | zero =>
    intro k r s is hn hs hg hsen hb hm hl hr ha hL hlen
    match is, hlen with
    | [i], _ =>
      obtain ⟨hi, -⟩ := lockedFrom_cons hL
      obtain ⟨b, b1, b2, hstep⟩ := step_fall_readBit_last hi hs hg hb hm hl (by omega)
      have hk : k = 15 := by omega
      subst hk
      have hline : i.lineIn = f.getLsbD 15 := by
        have := ha 15 (by omega) (by omega)
        simpa using this
      refine ⟨b, s.data.commit.cur, b1, b2, ?_⟩
      rw [runOn_cons_next hstep]
      have hf : setSample r 15 i.lineIn = f := by
        apply BitVec.eq_of_getLsbD_eq
        intro j hj
        rw [setSample_getLsbD _ _ _ _ hj, hr j hj]
        by_cases h : j = 15
        · rw [if_pos h, h]; exact hline
        · rw [if_neg h, decide_eq_true (by omega : j < 15)]; rfl
      rw [hf, hline]
      rfl
  | succ m ih =>
    intro k r s is hn hs hg hsen hb hm hl hr ha hL hlen
    match is, hlen with
    | i :: i' :: is', hlen =>
      obtain ⟨hi, hL'⟩ := lockedFrom_cons hL
      obtain ⟨hi', hL''⟩ := lockedFrom_cons hL'
      obtain ⟨b, b1, b2, hstep⟩ := step_fall_readBit hi hs hg hb hm hl (by omega)
      have hsen1 : (s.sen.commit).settled = true := by rw [Line.commit_settled, hsen]; rfl
      obtain ⟨b', b1', b2', hstep'⟩ := step_rise_readBit
        (s := ((s.later b).writeData i.lineIn).suspend (.readBit 16 (k + 1) (setSample r k i.lineIn)) c)
        hi' ⟨b1, b1⟩ hsen1 hb rfl hl
      have hsen2 : (s.sen.commit.commit).settled = true := by rw [Line.commit_commit]; exact hsen1
      have hline : i.lineIn = f.getLsbD k := by
        have := ha k (by omega) (by omega)
        simpa using this
      obtain ⟨b'', d, h1, h2, h3⟩ := ih (k + 1) (setSample r k i.lineIn)
        ((((s.later b).writeData i.lineIn).suspend (.readBit 16 (k + 1) (setSample r k i.lineIn)) c).later b') is'
        (by omega) ⟨b1', b1'⟩ b2' hsen2 hb rfl hl
        (by
          intro j hj
          rw [setSample_getLsbD _ _ _ _ hj, hr j hj]
          by_cases h : j = k
          · rw [if_pos h, h, hline, decide_eq_true (by omega : k < k + 1)]; rfl
          · rw [if_neg h]
            congr 1
            exact decide_eq_decide.mpr (by omega))
        (by
          intro j h1 h2
          have := ha j (by omega) h2
          rw [show 2 * (j - k) = 2 * (j - (k + 1)) + 2 by omega] at this
          simpa using this)
        hL'' (by simp only [List.length_cons] at hlen; omega)
      refine ⟨b'', d, h1, h2, ?_⟩
      rw [runOn_cons_next hstep, runOn_cons_next hstep', h3]
      rw [← returnTo_suspend c f ((s.later b'').withData _) (.readBit 16 (k + 1) (setSample r k i.lineIn)) c]
      congr 3
      simp [State.later, State.withData, State.suspend, State.writeData]

/-- A rising tick at a wait for the clock, with no label to publish. -/
theorem step_rise_clk {s : State} {i : Input} {p : Process} (hi : Ticks true i) (hs : s.levels false)
    (hb : s.engine = .busy) (hm : s.main = some p) (hl : s.labelProc.suspended = false)
    (hp : p.point.callee = .rest ∨ p.point.callee = .start ∨ p.point.callee = .shutdown) :
    ∃ b : Bus, b.hi = true ∧ b.gate = (s.sen.settled || s.gateOpen) ∧
      step (s.feed i) = .next (p.point.goOn p.callers (s.later b)).notify := by
  obtain ⟨b, b1, b2, -, hA⟩ := hi.later_eq hs
  obtain ⟨e1, -, -⟩ := hi.events hs
  refine ⟨b, b1, by rw [b2]; rfl, ?_⟩
  obtain ⟨pt, k⟩ := p
  rw [step_suspended (hi.plain hs) hb hm (by cases pt <;> simp_all [Point.callee]), hA,
    processed_of_not_suspended (s := s.later b) hl]
  unfold resume
  have : Point.released pt (instantEvents i s) (s.later b) = true := by
    cases pt <;> simp_all [Point.callee, Point.released]
  rw [this]
  rfl

/-- `rest(3)` from a high tick, with its label published and the strobe being gated off: it returns six ticks later. -/
theorem run_rest_three {c : List Frame} {s : State} {is : List Input} (hs : s.levels true)
    (hsen : s.sen.settled = false) (hb : s.engine = .busy)
    (hm : s.main = some { point := .restFirst 3, callers := c }) (hl : s.labelProc.suspended = false)
    (hL : lockedFrom true is = true) (hlen : is.length = 6) :
    ∃ b : Bus, b.hi = true ∧ b.gate = false ∧
      runOn is s =
        .next (returnTo c 0#16 { s.later b with ts := .rest, data := { cur := false, pend := none },
                                                sen := { cur := false, pend := some true } }).notify := by
  match is, hlen with
  | [i1, i2, i3, i4, i5, i6], _ =>
    obtain ⟨h1, hL⟩ := lockedFrom_cons hL
    obtain ⟨h2, hL⟩ := lockedFrom_cons hL
    obtain ⟨h3, hL⟩ := lockedFrom_cons hL
    obtain ⟨h4, hL⟩ := lockedFrom_cons hL
    obtain ⟨h5, hL⟩ := lockedFrom_cons hL
    obtain ⟨h6, hL⟩ := lockedFrom_cons hL
    have hsc : s.sen.commit = { cur := false, pend := none } := by rw [Line.commit_settled, hsen]
    obtain ⟨b1, p1, g1, e1⟩ := step_fall h1 hs hb hm (by simp [Point.callee]) (by simp [Point.callee])
      (by simp [Point.callee])
    obtain ⟨b2, p2, g2, e2⟩ := step_rise_clk (s := s.later b1) h2 ⟨p1, p1⟩ hb hm hl (.inl rfl)
    rw [show (s.later b1).gateOpen = false from g1, show (s.later b1).sen = s.sen.commit from rfl, hsc] at g2
    have e2' : step ((s.later b1).feed i2) = .next
        ((((s.later b2).setTs .rest).writeData false).suspend (.restLoop 3 1) c).notify := by
      rw [e2, later_later]
      rfl
    obtain ⟨b3, p3, g3, e3⟩ := step_fall
      (s := ((((s.later b2).setTs .rest).writeData false).suspend (.restLoop 3 1) c).notify)
      (p := { point := .restLoop 3 1, callers := c }) h3 ⟨p2, p2⟩ hb rfl (by simp [Point.callee])
      (by simp [Point.callee]) (by simp [Point.callee])
    rw [later_of_notify] at e3
    obtain ⟨b4, p4, g4, e4⟩ := step_rise_clk
      (s := ((((s.later b2).setTs .rest).writeData false).suspend (.restLoop 3 1) c).later b3) h4 ⟨p3, p3⟩ hb rfl hl
      (.inl rfl)
    have e4' : step ((((((s.later b2).setTs .rest).writeData false).suspend (.restLoop 3 1) c).later b3).feed i4) = .next
        ((((((s.later b2).setTs .rest).writeData false).suspend (.restLoop 3 2) c).later b4)).notify := by
      rw [e4, later_later]
      rfl
    obtain ⟨b5, p5, g5, e5⟩ := step_fall
      (s := ((((s.later b2).setTs .rest).writeData false).suspend (.restLoop 3 2) c).later b4 |>.notify)
      (p := { point := .restLoop 3 2, callers := c }) h5 ⟨p4, p4⟩ hb rfl (by simp [Point.callee])
      (by simp [Point.callee]) (by simp [Point.callee])
    rw [later_of_notify, later_later] at e5
    obtain ⟨b6, p6, g6, e6⟩ := step_rise_clk
      (s := ((((s.later b2).setTs .rest).writeData false).suspend (.restLoop 3 2) c).later b5) h6 ⟨p5, p5⟩ hb rfl hl
      (.inl rfl)
    rw [later_later] at e6
    refine ⟨b6, p6, ?_, ?_⟩
    · have : (s.sen.commit.commit.commit).settled = false := by rw [hsc]; rfl
      rw [g6]
      show ((s.sen.commit.commit).settled || b5.gate) = false
      rw [hsc, g5]; rfl
    · rw [runOn_cons_next e1, runOn_cons_next e2', runOn_cons_next e3, runOn_cons_next e4', runOn_cons_next e5,
        runOn_cons_next e6]
      show Host.Outcome.next _ = _
      congr 2
      show returnTo c 0#16 _ = _
      rw [← returnTo_suspend c 0#16 { s.later b6 with ts := .rest, data := { cur := false, pend := none },
                                                      sen := { cur := false, pend := some true } } (.restLoop 3 2) c]
      congr 1
      simp [State.later, State.suspend, State.setTs, State.writeData, State.writeSen, Line.write, hsc]


/-- A high tick and the falling one after it, at a wait for the clock: what the rise did is committed. -/
theorem step_fall_clk {s : State} {i : Input} {p : Process} (hi : Ticks false i) (hs : s.levels true)
    (hb : s.engine = .busy) (hm : s.main = some p)
    (hp : p.point.callee = .rest ∨ p.point.callee = .start ∨ p.point.callee = .shutdown) :
    ∃ b : Bus, b.hi = false ∧ b.gate = false ∧ step (s.feed i) = .next (s.later b) :=
  step_fall hi hs hb hm (by rcases hp with h | h | h <;> rw [h] <;> decide)
    (by rcases hp with h | h | h <;> rw [h] <;> decide) (by rcases hp with h | h | h <;> rw [h] <;> decide)

/-- The lines and registers that a completed `start()` leaves (R190). -/
def State.started (s : State) : State :=
  { s with pm := { cur := true, pend := none }, pwr := { cur := true, pend := none },
           data := { cur := false, pend := none }, sen := { cur := false, pend := some true }, ts := .rest,
           label := .none, seq := .running }

/-- The lines and registers that a completed `shutdown()` leaves (R191). -/
def State.shutDown (s : State) : State :=
  { s with pm := { cur := false, pend := none }, pwr := { cur := false, pend := none },
           data := { cur := false, pend := none }, sen := { cur := false, pend := none }, ts := .rest,
           label := .none, seq := .uninitialized }

/-- `start()` from a low tick, its first writes pending or committed: it returns five ticks later. -/
theorem run_start_low {c : List Frame} {s : State} {is : List Input} (hs : s.levels false)
    (hd : s.data.settled = false) (hsen : s.sen.settled = false) (hb : s.engine = .busy)
    (hm : s.main = some { point := .startPm, callers := c }) (hl : s.labelProc.suspended = false)
    (hL : lockedFrom false is = true) (hlen : is.length = 5) :
    ∃ b : Bus, b.hi = true ∧ b.gate = false ∧
      runOn is s = .next (returnTo c 0#16 (s.later b).started).notify := by
  match is, hlen with
  | [i2, i3, i4, i5, i6], _ =>
    obtain ⟨h2, hL⟩ := lockedFrom_cons hL
    obtain ⟨h3, hL⟩ := lockedFrom_cons hL
    obtain ⟨h4, hL⟩ := lockedFrom_cons hL
    obtain ⟨h5, hL⟩ := lockedFrom_cons hL
    obtain ⟨h6, hL⟩ := lockedFrom_cons hL
    have hsc : s.sen.commit = { cur := false, pend := none } := by rw [Line.commit_settled, hsen]
    have hdc : s.data.commit = { cur := false, pend := none } := by rw [Line.commit_settled, hd]
    obtain ⟨b2, p2, g2, e2⟩ := step_rise_clk h2 hs hb hm hl (.inr (.inl rfl))
    obtain ⟨b3, p3, g3, e3⟩ := step_fall_clk
      (s := (startPmEdge c (s.later b2)).notify) (p := { point := .startPwr, callers := c }) h3 ⟨p2, p2⟩ hb rfl
      (.inr (.inl rfl))
    rw [later_of_notify] at e3
    obtain ⟨b4, p4, g4, e4⟩ := step_rise_clk (s := (startPmEdge c (s.later b2)).later b3)
      (p := { point := .startPwr, callers := c }) h4 ⟨p3, p3⟩ hb rfl hl (.inr (.inl rfl))
    rw [later_later] at e4
    obtain ⟨b5, p5, g5, e5⟩ := step_fall_clk
      (s := (startPwrEdge c ((startPmEdge c (s.later b2)).later b4)).notify)
      (p := { point := .startSen, callers := c }) h5 ⟨p4, p4⟩ hb rfl (.inr (.inl rfl))
    rw [later_of_notify] at e5
    obtain ⟨b6, p6, g6, e6⟩ := step_rise_clk
      (s := (startPwrEdge c ((startPmEdge c (s.later b2)).later b4)).later b5)
      (p := { point := .startSen, callers := c }) h6 ⟨p5, p5⟩ hb rfl hl (.inr (.inl rfl))
    rw [later_later] at e6
    refine ⟨b6, p6, ?_, ?_⟩
    · rw [g6]
      show ((s.sen.commit.commit.commit).settled || b5.gate) = false
      rw [hsc, g5]; rfl
    · rw [runOn_cons_next e2]
      show runOn _ (startPmEdge c (s.later b2)).notify = _
      rw [runOn_cons_next e3, runOn_cons_next e4]
      show runOn _ (startPwrEdge c ((startPmEdge c (s.later b2)).later b4)).notify = _
      rw [runOn_cons_next e5, runOn_cons_next e6]
      show Host.Outcome.next (returnTo c 0#16 _).notify = _
      rw [← returnTo_suspend c 0#16 (s.later b6).started .startSen c]
      congr 3
      simp [State.later, State.started, startPmEdge, startPwrEdge, startSenEdge, State.suspend, State.setTs,
        State.setLabel, State.setSeq, State.writePm, State.writePwr, State.writeSen, Line.write, hsc, hdc]

/-- `shutdown()` from a low tick: it returns seven ticks later. -/
theorem run_shutdown_low {c : List Frame} {s : State} {is : List Input} (hs : s.levels false)
    (hb : s.engine = .busy) (hm : s.main = some { point := .shutdownData, callers := c })
    (hl : s.labelProc.suspended = false) (hL : lockedFrom false is = true) (hlen : is.length = 7) :
    ∃ b : Bus, b.hi = true ∧ b.gate = false ∧
      runOn is s = .next (returnTo c 0#16 (s.later b).shutDown).notify := by
  match is, hlen with
  | [i2, i3, i4, i5, i6, i7, i8], _ =>
    obtain ⟨h2, hL⟩ := lockedFrom_cons hL
    obtain ⟨h3, hL⟩ := lockedFrom_cons hL
    obtain ⟨h4, hL⟩ := lockedFrom_cons hL
    obtain ⟨h5, hL⟩ := lockedFrom_cons hL
    obtain ⟨h6, hL⟩ := lockedFrom_cons hL
    obtain ⟨h7, hL⟩ := lockedFrom_cons hL
    obtain ⟨h8, hL⟩ := lockedFrom_cons hL
    obtain ⟨b2, p2, g2, e2⟩ := step_rise_clk h2 hs hb hm hl (.inr (.inr rfl))
    obtain ⟨b3, p3, g3, e3⟩ := step_fall_clk
      (s := (shutdownDataEdge c (s.later b2)).notify) (p := { point := .shutdownPm, callers := c }) h3 ⟨p2, p2⟩ hb rfl
      (.inr (.inr rfl))
    rw [later_of_notify] at e3
    obtain ⟨b4, p4, g4, e4⟩ := step_rise_clk (s := (shutdownDataEdge c (s.later b2)).later b3)
      (p := { point := .shutdownPm, callers := c }) h4 ⟨p3, p3⟩ hb rfl hl (.inr (.inr rfl))
    rw [later_later] at e4
    obtain ⟨b5, p5, g5, e5⟩ := step_fall_clk
      (s := (shutdownPmEdge c ((shutdownDataEdge c (s.later b2)).later b4)).notify)
      (p := { point := .shutdownPwr, callers := c }) h5 ⟨p4, p4⟩ hb rfl (.inr (.inr rfl))
    rw [later_of_notify] at e5
    obtain ⟨b6, p6, g6, e6⟩ := step_rise_clk
      (s := (shutdownPmEdge c ((shutdownDataEdge c (s.later b2)).later b4)).later b5)
      (p := { point := .shutdownPwr, callers := c }) h6 ⟨p5, p5⟩ hb rfl hl (.inr (.inr rfl))
    rw [later_later] at e6
    obtain ⟨b7, p7, g7, e7⟩ := step_fall_clk
      (s := (shutdownPwrEdge c ((shutdownPmEdge c ((shutdownDataEdge c (s.later b2)).later b4)).later b6)).notify)
      (p := { point := .shutdownEnd, callers := c }) h7 ⟨p6, p6⟩ hb rfl (.inr (.inr rfl))
    rw [later_of_notify] at e7
    obtain ⟨b8, p8, g8, e8⟩ := step_rise_clk
      (s := (shutdownPwrEdge c ((shutdownPmEdge c ((shutdownDataEdge c (s.later b2)).later b4)).later b6)).later b7)
      (p := { point := .shutdownEnd, callers := c }) h8 ⟨p7, p7⟩ hb rfl hl (.inr (.inr rfl))
    rw [later_later] at e8
    refine ⟨b8, p8, ?_, ?_⟩
    · rw [g8]
      exact g7
    · rw [runOn_cons_next e2]
      show runOn _ (shutdownDataEdge c (s.later b2)).notify = _
      rw [runOn_cons_next e3, runOn_cons_next e4]
      show runOn _ (shutdownPmEdge c ((shutdownDataEdge c (s.later b2)).later b4)).notify = _
      rw [runOn_cons_next e5, runOn_cons_next e6]
      show runOn _ (shutdownPwrEdge c ((shutdownPmEdge c ((shutdownDataEdge c (s.later b2)).later b4)).later b6)).notify = _
      rw [runOn_cons_next e7, runOn_cons_next e8]
      show Host.Outcome.next (returnTo c 0#16 _).notify = _
      rw [← returnTo_suspend c 0#16 (s.later b8).shutDown .shutdownEnd c]
      rfl

/-- `start()` from a high tick: it returns six ticks later. -/
theorem run_start_high {c : List Frame} {s : State} {is : List Input} (hs : s.levels true)
    (hd : s.data.settled = false) (hsen : s.sen.settled = false) (hb : s.engine = .busy)
    (hm : s.main = some { point := .startPm, callers := c }) (hl : s.labelProc.suspended = false)
    (hL : lockedFrom true is = true) (hlen : is.length = 6) :
    ∃ b : Bus, b.hi = true ∧ b.gate = false ∧
      runOn is s = .next (returnTo c 0#16 (s.later b).started).notify := by
  match is, hlen with
  | i :: is', hlen =>
    obtain ⟨h1, hL'⟩ := lockedFrom_cons hL
    obtain ⟨b1, p1, g1, e1⟩ := step_fall_clk h1 hs hb hm (.inr (.inl rfl))
    obtain ⟨b, hb1, hb2, h⟩ := run_start_low (s := s.later b1) ⟨p1, p1⟩
      (by show (s.data.commit).settled = false; rw [Line.commit_settled, hd]; rfl)
      (by show (s.sen.commit).settled = false; rw [Line.commit_settled, hsen]; rfl) hb hm hl hL'
      (by simp only [List.length_cons] at hlen; omega)
    exact ⟨b, hb1, hb2, by rw [runOn_cons_next e1, h, later_later]⟩

/-- `shutdown()` from a high tick: it returns eight ticks later. -/
theorem run_shutdown_high {c : List Frame} {s : State} {is : List Input} (hs : s.levels true)
    (hb : s.engine = .busy) (hm : s.main = some { point := .shutdownData, callers := c })
    (hl : s.labelProc.suspended = false) (hL : lockedFrom true is = true) (hlen : is.length = 8) :
    ∃ b : Bus, b.hi = true ∧ b.gate = false ∧
      runOn is s = .next (returnTo c 0#16 (s.later b).shutDown).notify := by
  match is, hlen with
  | i :: is', hlen =>
    obtain ⟨h1, hL'⟩ := lockedFrom_cons hL
    obtain ⟨b1, p1, g1, e1⟩ := step_fall_clk h1 hs hb hm (.inr (.inr rfl))
    obtain ⟨b, hb1, hb2, h⟩ := run_shutdown_low (s := s.later b1) ⟨p1, p1⟩ hb hm hl hL'
      (by simp only [List.length_cons] at hlen; omega)
    exact ⟨b, hb1, hb2, by rw [runOn_cons_next e1, h, later_later]⟩

/-! ### The force of TransportState -/

/-- The force of an instant, as the statements say it in numbers (R226). -/
theorem forcedTs_eq_forceOn (i : Input) (s : State) : forcedTs i s = forceOn s.params i s.ts := by
  have h : ∀ v : BitVec 2, TransportState.ofCode v = [TransportState.tx, .rx, .rest][v.toNat]? := by decide
  unfold forcedTs State.force forceOn
  rw [h]
  split
  · cases [TransportState.tx, .rx, .rest][i.tsForceVal.toNat]? <;> rfl
  · rfl

/-- TransportState after one more edge instant (R226). -/
theorem tsThrough_edge {s : State} {i : Input} (is : List Input) (he : (levelEvents s i).any = true) :
    tsThrough s.params s.clk s.rawStb s.ts (i :: is) =
      tsThrough s.params i.clk (rawLevel s.params i) (forcedTs i s) is := by
  have : (i.clk != s.clk || rawLevel s.params i != s.rawStb) = true := by
    revert he
    simp only [levelEvents, Events.any]
    cases i.clk <;> cases s.clk <;> cases rawLevel s.params i <;> cases s.rawStb <;> decide
  rw [tsThrough, if_pos this, forcedTs_eq_forceOn]

end Sys2Proof.Machine
end

