-- ==== Sys2Proof/Laws/PerInstr.lean ====
section
/-! SUPPORT. A statement about every instruction as syntax: its encoding is the one its row of spec/opcode_table.json
fixes (R91, R105, R106). -/

namespace Sys2Proof.Laws.TableRow

/-- The `match` and the `mask` of an instruction's row of spec/opcode_table.json. -/
def row : Instr → Nat × Nat
  | .start => (0x01000000, 0xFF000000)
  | .shutdown => (0x02000000, 0xFF000000)
  | .reset => (0x03000000, 0xFF000000)
  | .programCycle _ => (0x04000000, 0xFF000000)
  | .readOsccal => (0x05000000, 0xFF000000)
  | .readIdBandgap => (0x06000000, 0xFF000000)
  | .bulkEraseDevice => (0x07000000, 0xFF000000)
  | .cleanDevice => (0x08000000, 0xFF000000)
  | .session => (0x09000000, 0xFF000000)
  | .loadConfig _ => (0x10000000, 0xFF000000)
  | .loadProgram _ => (0x11000000, 0xFF000000)
  | .loadData _ => (0x12000000, 0xFF000000)
  | .incrementAddress => (0x13000000, 0xFF000000)
  | .endProgramming => (0x14000000, 0xFF000000)
  | .readProgram => (0x15000000, 0xFF000000)
  | .readData => (0x16000000, 0xFF000000)
  | .beginProgram => (0x17000000, 0xFF000000)
  | .eraseProgram => (0x18000000, 0xFF000000)
  | .eraseData => (0x19000000, 0xFF000000)
  | .sendCmd _ => (0x1A000000, 0xFF000000)
  | .sendCmdData _ _ => (0x1B000000, 0xFF000000)
  | .sendCmdByte _ _ => (0x1C000000, 0xFF000000)
  | .sendCmdRead _ => (0x1D000000, 0xFF000000)
  | .sendCmdReadByte _ => (0x1E000000, 0xFF000000)
  | .rest _ => (0x1F000000, 0xFF000000)
  | .wireLoadConfiguration _ _ => (0x00, 0x0F)
  | .wireLoadDataForProgramMemory _ _ => (0x02, 0x0F)
  | .wireIncrementAddress _ => (0x06, 0x0F)
  | .wireEndProgramming => (0x0A, 0x3F)
  | .wireLoadDataForDataMemory _ _ => (0x03, 0x0F)
  | .wireReadDataFromProgramMemory _ => (0x04, 0x0F)
  | .wireReadDataFromDataMemory _ => (0x05, 0x0F)
  | .wireBeginProgrammingInternallyTimed => (0x08, 0x3F)
  | .wireBulkEraseProgramMemory _ => (0x09, 0x0F)
  | .wireBulkEraseDataMemory _ => (0x0B, 0x0F)
  | .wireBeginProgrammingExternallyTimed => (0x18, 0x3F)

/-- The bits an instruction's row is compared with: a request word, or the byte that holds the command code. -/
def tableBits : Encoded → Nat
  | .request q => q.toNat
  | .transaction w => w.toNat % 2 ^ 8

/-- The encoding of the instruction has the bits that its row of the table fixes. -/
def Statement (i : Instr) : Prop := tableBits (encode i) &&& (row i).2 = (row i).1

/-- A request word under the mask of its row: the reserved and operation fields. -/
theorem request_bits (op : BitVec 5) (c : Cmd) (d : Arg) :
    (packRequest op c d).toNat &&& 0xFF000000 = op.toNat * 2 ^ 24 := by
  have h : packRequest op c d &&& 0xFF000000#32 = (op.setWidth 32) <<< 24 := by
    unfold packRequest
    ext k hk
    simp only [BitVec.getElem_and, BitVec.getElem_append, BitVec.getElem_shiftLeft, BitVec.getElem_setWidth]
    interval_cases k <;> simp
  have h2 := congrArg BitVec.toNat h
  have ho := op.isLt
  simp only [BitVec.toNat_and, BitVec.toNat_shiftLeft, BitVec.toNat_setWidth, BitVec.toNat_ofNat] at h2
  rw [show (0xFF000000 : Nat) = 4278190080 % 2 ^ 32 by decide, h2, Nat.shiftLeft_eq]
  omega

/-- The byte of a transaction that holds the code. -/
theorem transaction_bits (c : Code) (f : WireFrame) : (packTransaction c f).toNat % 2 ^ 8 = c.toNat := by
  have h : (packTransaction c f).setWidth 8 = c.setWidth 8 := by
    unfold packTransaction
    ext k hk
    simp only [BitVec.getElem_setWidth, BitVec.getLsbD_append]
    interval_cases k <;> simp
  have h2 := congrArg BitVec.toNat h
  have hc := c.isLt
  simp only [BitVec.toNat_setWidth] at h2
  omega

theorem start : Statement (.start) := request_bits _ _ _

theorem shutdown : Statement (.shutdown) := request_bits _ _ _

theorem reset : Statement (.reset) := request_bits _ _ _

theorem programCycle (a : Arg) : Statement (.programCycle a) := request_bits _ _ _

theorem readOsccal : Statement (.readOsccal) := request_bits _ _ _

theorem readIdBandgap : Statement (.readIdBandgap) := request_bits _ _ _

theorem bulkEraseDevice : Statement (.bulkEraseDevice) := request_bits _ _ _

theorem cleanDevice : Statement (.cleanDevice) := request_bits _ _ _

theorem session : Statement (.session) := request_bits _ _ _

theorem loadConfig (a : Arg) : Statement (.loadConfig a) := request_bits _ _ _

theorem loadProgram (a : Arg) : Statement (.loadProgram a) := request_bits _ _ _

theorem loadData (a : Arg) : Statement (.loadData a) := request_bits _ _ _

theorem incrementAddress : Statement (.incrementAddress) := request_bits _ _ _

theorem endProgramming : Statement (.endProgramming) := request_bits _ _ _

theorem readProgram : Statement (.readProgram) := request_bits _ _ _

theorem readData : Statement (.readData) := request_bits _ _ _

theorem beginProgram : Statement (.beginProgram) := request_bits _ _ _

theorem eraseProgram : Statement (.eraseProgram) := request_bits _ _ _

theorem eraseData : Statement (.eraseData) := request_bits _ _ _

theorem sendCmd (a : Cmd) : Statement (.sendCmd a) := request_bits _ _ _

theorem sendCmdData (c : Cmd) (d : Arg) : Statement (.sendCmdData c d) := request_bits _ _ _

theorem sendCmdByte (c : Cmd) (d : Arg) : Statement (.sendCmdByte c d) := request_bits _ _ _

theorem sendCmdRead (a : Cmd) : Statement (.sendCmdRead a) := request_bits _ _ _

theorem sendCmdReadByte (a : Cmd) : Statement (.sendCmdReadByte a) := request_bits _ _ _

theorem rest (a : Arg) : Statement (.rest a) := request_bits _ _ _

theorem wireLoadConfiguration (x : BitVec 2) (f : WireFrame) : Statement (.wireLoadConfiguration x f) := by
  unfold Statement; simp only [encode, tableBits, transaction_bits, row]; clear f; revert x; decide

theorem wireLoadDataForProgramMemory (x : BitVec 2) (f : WireFrame) : Statement (.wireLoadDataForProgramMemory x f) := by
  unfold Statement; simp only [encode, tableBits, transaction_bits, row]; clear f; revert x; decide

theorem wireIncrementAddress (x : BitVec 2) : Statement (.wireIncrementAddress x) := by
  unfold Statement; simp only [encode, tableBits, transaction_bits]; revert x; decide

theorem wireEndProgramming : Statement (.wireEndProgramming) := by
  unfold Statement; simp only [encode, tableBits, transaction_bits]; decide

theorem wireLoadDataForDataMemory (x : BitVec 2) (f : WireFrame) : Statement (.wireLoadDataForDataMemory x f) := by
  unfold Statement; simp only [encode, tableBits, transaction_bits, row]; clear f; revert x; decide

theorem wireReadDataFromProgramMemory (x : BitVec 2) : Statement (.wireReadDataFromProgramMemory x) := by
  unfold Statement; simp only [encode, tableBits, transaction_bits]; revert x; decide

theorem wireReadDataFromDataMemory (x : BitVec 2) : Statement (.wireReadDataFromDataMemory x) := by
  unfold Statement; simp only [encode, tableBits, transaction_bits]; revert x; decide

theorem wireBeginProgrammingInternallyTimed : Statement (.wireBeginProgrammingInternallyTimed) := by
  unfold Statement; simp only [encode, tableBits, transaction_bits]; decide

theorem wireBulkEraseProgramMemory (x : BitVec 2) : Statement (.wireBulkEraseProgramMemory x) := by
  unfold Statement; simp only [encode, tableBits, transaction_bits]; revert x; decide

theorem wireBulkEraseDataMemory (x : BitVec 2) : Statement (.wireBulkEraseDataMemory x) := by
  unfold Statement; simp only [encode, tableBits, transaction_bits]; revert x; decide

theorem wireBeginProgrammingExternallyTimed : Statement (.wireBeginProgrammingExternallyTimed) := by
  unfold Statement; simp only [encode, tableBits, transaction_bits]; decide

end Sys2Proof.Laws.TableRow
end

