-- ==== Sys2Proof/Machine/Assembler.lean ====
section
/-! DEFINITION. The written form of requests (R112) and the expansions of the compound requests (R113). -/

namespace Sys2Proof.Machine

/-- Which operands a mnemonic is written with (R112). -/
inductive OperandShape where
  | bare
  | arg
  | cmd
  | cmdArg
  deriving DecidableEq, Repr

/-- The mnemonics of R106 with their op numbers and operand shapes (R112). -/
def mnemonicTable : List (String × BitVec 5 × OperandShape) :=
  [("START", 0x01, .bare), ("SHUTDOWN", 0x02, .bare), ("RESET", 0x03, .bare), ("PROGRAM_CYCLE", 0x04, .arg),
   ("READ_OSCCAL", 0x05, .bare), ("READ_ID_BANDGAP", 0x06, .bare), ("BULK_ERASE_DEVICE", 0x07, .bare),
   ("CLEAN_DEVICE", 0x08, .bare), ("SESSION", 0x09, .bare), ("LOAD_CONFIG", 0x10, .arg), ("LOAD_PROGRAM", 0x11, .arg),
   ("LOAD_DATA", 0x12, .arg), ("INCREMENT_ADDRESS", 0x13, .bare), ("END_PROGRAMMING", 0x14, .bare)] ++
  [("READ_PROGRAM", 0x15, .bare), ("READ_DATA", 0x16, .bare), ("BEGIN_PROGRAM", 0x17, .bare),
   ("ERASE_PROGRAM", 0x18, .bare), ("ERASE_DATA", 0x19, .bare), ("SEND_CMD", 0x1A, .cmd),
   ("SEND_CMD_DATA", 0x1B, .cmdArg), ("SEND_CMD_BYTE", 0x1C, .cmdArg), ("SEND_CMD_READ", 0x1D, .cmd),
   ("SEND_CMD_READ_BYTE", 0x1E, .cmd), ("REST", 0x1F, .arg)]

/-- A digit of a number in the given base. -/
def digitValue (base : Nat) (c : Char) : Option Nat :=
  let n :=
    if '0' ≤ c ∧ c ≤ '9' then c.toNat - '0'.toNat
    else if 'a' ≤ c ∧ c ≤ 'f' then c.toNat - 'a'.toNat + 10
    else if 'A' ≤ c ∧ c ≤ 'F' then c.toNat - 'A'.toNat + 10
    else base
  if n < base then some n else none

/-- Digits read in the given base, most significant first. -/
def digitsValue (base : Nat) : List Char → Nat → Option Nat
  | [], v => some v
  | c :: cs, v =>
    match digitValue base c with
    | none => none
    | some d => digitsValue base cs (v * base + d)

/-- A number in a request's written form: decimal, `0x` hexadecimal or `0b` binary (R112). -/
def parseNumber (cs : List Char) : Option Nat :=
  match cs with
  | [] => none
  | '0' :: 'x' :: c :: cs => digitsValue 16 (c :: cs) 0
  | '0' :: 'b' :: c :: cs => digitsValue 2 (c :: cs) 0
  | c :: cs => digitsValue 10 (c :: cs) 0

/-- The assembled word `op << 24 | cmd << 16 | arg` of a mnemonic and its operands (R112). An operand too large for its
field has no assembled word (assumption log 16). -/
def assemble (mnemonic : String) (operands : List Nat) : Option RequestWord :=
  match mnemonicTable.lookup mnemonic with
  | none => none
  | some (op, shape) =>
    match shape, operands with
    | .bare, [] => some (packRequest op 0#8 0#16)
    | .arg, [a] => if a < 2 ^ 16 then some (packRequest op 0#8 (BitVec.ofNat 16 a)) else none
    | .cmd, [c] => if c < 2 ^ 8 then some (packRequest op (BitVec.ofNat 8 c) 0#16) else none
    | .cmdArg, [c, a] =>
      if c < 2 ^ 8 ∧ a < 2 ^ 16 then some (packRequest op (BitVec.ofNat 8 c) (BitVec.ofNat 16 a)) else none
    | _, _ => none

/-- A character that separates nothing and means nothing around an operand. -/
def isBlank (c : Char) : Bool := c == ' ' || c == '\t'

/-- Blanks at both ends taken off. -/
def trimBlanks (cs : List Char) : List Char := ((cs.dropWhile isBlank).reverse.dropWhile isBlank).reverse

/-- The operands of a written request, separated by commas (R112). -/
def splitOperands : List Char → List Char → List (List Char)
  | [], acc => [trimBlanks acc.reverse]
  | c :: cs, acc => if c == ',' then trimBlanks acc.reverse :: splitOperands cs [] else splitOperands cs (c :: acc)

/-- One written request: its mnemonic, then its operands separated by commas (R112). -/
def assembleLine (line : List Char) : Option RequestWord :=
  let cs := trimBlanks line
  let mnemonic := cs.takeWhile (fun c => !isBlank c)
  let rest := trimBlanks (cs.dropWhile (fun c => !isBlank c))
  match rest with
  | [] => assemble (String.ofList mnemonic) []
  | c :: rest =>
    match (splitOperands (c :: rest) []).mapM parseNumber with
    | none => none
    | some ns => assemble (String.ofList mnemonic) ns

/-- A program: the requests presented one after another, each after the previous one has completed (R112). -/
def assembleProgram (lines : List (List Char)) : Option (List RequestWord) := lines.mapM assembleLine

/-- The expansion of a compound request into requests (R113); every other instruction stands for itself. The checks and
the cache writes that R113 adds in brackets are no requests. -/
def expansion : Instr → List Instr
  | .reset => [.shutdown, .start]
  | .programCycle d => [.loadProgram d, .beginProgram, .readProgram, .incrementAddress]
  | .readOsccal => .reset :: List.replicate 3 .incrementAddress ++ [.readProgram]
  | .readIdBandgap =>
    [.reset, .loadConfig 0] ++ (List.replicate 4 [.readProgram, .incrementAddress]).flatten ++
      List.replicate 3 .incrementAddress ++ [.readProgram]
  | .bulkEraseDevice => [.eraseProgram, .eraseData]
  | .cleanDevice => [.readOsccal, .readIdBandgap, .bulkEraseDevice]
  | .session => [.cleanDevice, .shutdown]
  | .start => [.start]
  | .shutdown => [.shutdown]
  | .loadConfig a => [.loadConfig a]
  | .loadProgram a => [.loadProgram a]
  | .loadData a => [.loadData a]
  | .incrementAddress => [.incrementAddress]
  | .endProgramming => [.endProgramming]
  | .readProgram => [.readProgram]
  | .readData => [.readData]
  | .beginProgram => [.beginProgram]
  | .eraseProgram => [.eraseProgram]
  | .eraseData => [.eraseData]
  | .sendCmd a => [.sendCmd a]
  | .sendCmdData a b => [.sendCmdData a b]
  | .sendCmdByte a b => [.sendCmdByte a b]
  | .sendCmdRead a => [.sendCmdRead a]
  | .sendCmdReadByte a => [.sendCmdReadByte a]
  | .rest a => [.rest a]
  | .wireLoadConfiguration a b => [.wireLoadConfiguration a b]
  | .wireLoadDataForProgramMemory a b => [.wireLoadDataForProgramMemory a b]
  | .wireIncrementAddress a => [.wireIncrementAddress a]
  | .wireEndProgramming => [.wireEndProgramming]
  | .wireLoadDataForDataMemory a b => [.wireLoadDataForDataMemory a b]
  | .wireReadDataFromProgramMemory a => [.wireReadDataFromProgramMemory a]
  | .wireReadDataFromDataMemory a => [.wireReadDataFromDataMemory a]
  | .wireBeginProgrammingInternallyTimed => [.wireBeginProgrammingInternallyTimed]
  | .wireBulkEraseProgramMemory a => [.wireBulkEraseProgramMemory a]
  | .wireBulkEraseDataMemory a => [.wireBulkEraseDataMemory a]
  | .wireBeginProgrammingExternallyTimed => [.wireBeginProgrammingExternallyTimed]

end Sys2Proof.Machine
end

