-- ==== Sys2Proof/Tests/Slice0.lean ====
section
/-! SUPPORT. Tests: what the checks refuse, words written out from the spec's tables, the assembler, one step per
instruction, and for every statement with hypotheses a state and inputs that meet them. Expected values come from
spec/95_test_vectors.md, spec/30_encoding.md and the pseudocode of the rules named. -/

namespace Sys2Proof.Tests

open Sys2Proof.Machine

/-! ### WellFormed refuses -/

/-- Start bit 1 (R103). -/
theorem test_wellFormed_refuses_start_bit : (Instr.wireLoadConfiguration 0 0x0001).wellFormed = false := by decide

/-- Stop bit 1 (R103). -/
theorem test_wellFormed_refuses_stop_bit : (Instr.wireLoadDataForProgramMemory 3 0x8000).wellFormed = false := by decide

/-- A padding bit of a byte frame 1 (R103). -/
theorem test_wellFormed_refuses_padding : (Instr.wireLoadDataForDataMemory 0 0x0200).wellFormed = false := by decide

/-- The start bit of a byte frame (R103). -/
theorem test_wellFormed_refuses_byte_start_bit : (Instr.wireLoadDataForDataMemory 0 0x0003).wellFormed = false := by decide

/-- The largest frames are well formed (L1.2). -/
theorem test_wellFormed_largest_frames :
    (Instr.wireLoadConfiguration 0 0x7FFE).wellFormed = true ∧
    (Instr.wireLoadDataForDataMemory 0 0x01FE).wellFormed = true := by decide

/-! ### Decoding, the words written out bit by bit: rsv, op, cmd, arg of R105; frame, two zeros, code of log 9 -/

theorem test_decode_start :
    decode (.request 0b000_00001_00000000_0000000000000000) = .ok .start := by decide
theorem test_decode_shutdown :
    decode (.request 0b000_00010_00000000_0000000000000000) = .ok .shutdown := by decide
theorem test_decode_reset :
    decode (.request 0b000_00011_00000000_0000000000000000) = .ok .reset := by decide
theorem test_decode_programCycle :
    decode (.request 0b000_00100_00000000_0001001000110100) = .ok (.programCycle 0x1234) := by decide
theorem test_decode_readOsccal :
    decode (.request 0b000_00101_00000000_0000000000000000) = .ok .readOsccal := by decide
theorem test_decode_readIdBandgap :
    decode (.request 0b000_00110_00000000_0000000000000000) = .ok .readIdBandgap := by decide
theorem test_decode_bulkEraseDevice :
    decode (.request 0b000_00111_00000000_0000000000000000) = .ok .bulkEraseDevice := by decide
theorem test_decode_cleanDevice :
    decode (.request 0b000_01000_00000000_0000000000000000) = .ok .cleanDevice := by decide
theorem test_decode_session :
    decode (.request 0b000_01001_00000000_0000000000000000) = .ok .session := by decide
theorem test_decode_loadConfig :
    decode (.request 0b000_10000_00000000_0011111111111111) = .ok (.loadConfig 0x3FFF) := by decide
theorem test_decode_loadProgram :
    decode (.request 0b000_10001_00000000_0100000000000000) = .ok (.loadProgram 0x4000) := by decide
theorem test_decode_loadData :
    decode (.request 0b000_10010_00000000_0000000010100101) = .ok (.loadData 0xA5) := by decide
theorem test_decode_incrementAddress :
    decode (.request 0b000_10011_11111111_0001001000110100) = .ok .incrementAddress := by decide
theorem test_decode_endProgramming :
    decode (.request 0b000_10100_00000000_0000000000000000) = .ok .endProgramming := by decide
theorem test_decode_readProgram :
    decode (.request 0b000_10101_00000000_0000000000000000) = .ok .readProgram := by decide
theorem test_decode_readData :
    decode (.request 0b000_10110_00000000_0000000000000000) = .ok .readData := by decide
theorem test_decode_beginProgram :
    decode (.request 0b000_10111_00000000_0000000000000000) = .ok .beginProgram := by decide
theorem test_decode_eraseProgram :
    decode (.request 0b000_11000_00000000_0000000000000000) = .ok .eraseProgram := by decide
theorem test_decode_eraseData :
    decode (.request 0b000_11001_00000000_0000000000000000) = .ok .eraseData := by decide
theorem test_decode_sendCmd :
    decode (.request 0b000_11010_00000110_0000000000000000) = .ok (.sendCmd 0x06) := by decide
theorem test_decode_sendCmdData :
    decode (.request 0b000_11011_00000010_0100000000000000) = .ok (.sendCmdData 0x02 0x4000) := by decide
theorem test_decode_sendCmdByte :
    decode (.request 0b000_11100_00000011_0000000011111111) = .ok (.sendCmdByte 0x03 0xFF) := by decide
theorem test_decode_sendCmdRead :
    decode (.request 0b000_11101_00000100_0000000000000000) = .ok (.sendCmdRead 0x04) := by decide
theorem test_decode_sendCmdReadByte :
    decode (.request 0b000_11110_11111111_0000000000000000) = .ok (.sendCmdReadByte 0xFF) := by decide
theorem test_decode_rest :
    decode (.request 0b000_11111_00000000_1000000000000001) = .ok (.rest 0x8001) := by decide
theorem test_decode_wireLoadConfiguration :
    decode (.transaction 0b0111111111111110_00_110000) = .ok (.wireLoadConfiguration 3 0x7FFE) := by decide
theorem test_decode_wireLoadDataForProgramMemory :
    decode (.transaction 0b0010010001101000_00_100010) = .ok (.wireLoadDataForProgramMemory 2 0x2468) := by decide
theorem test_decode_wireIncrementAddress :
    decode (.transaction 0b0000000000000000_00_010110) = .ok (.wireIncrementAddress 1) := by decide
theorem test_decode_wireEndProgramming :
    decode (.transaction 0b0000000000000000_00_001010) = .ok .wireEndProgramming := by decide
theorem test_decode_wireLoadDataForDataMemory :
    decode (.transaction 0b0000000101001010_00_000011) = .ok (.wireLoadDataForDataMemory 0 0x014A) := by decide
theorem test_decode_wireReadDataFromProgramMemory :
    decode (.transaction 0b0000000000000000_00_110100) = .ok (.wireReadDataFromProgramMemory 3) := by decide
theorem test_decode_wireReadDataFromDataMemory :
    decode (.transaction 0b0000000000000000_00_100101) = .ok (.wireReadDataFromDataMemory 2) := by decide
theorem test_decode_wireBeginProgrammingInternallyTimed :
    decode (.transaction 0b0000000000000000_00_001000) = .ok .wireBeginProgrammingInternallyTimed := by decide
theorem test_decode_wireBulkEraseProgramMemory :
    decode (.transaction 0b0000000000000000_00_011001) = .ok (.wireBulkEraseProgramMemory 1) := by decide
theorem test_decode_wireBulkEraseDataMemory :
    decode (.transaction 0b0000000000000000_00_111011) = .ok (.wireBulkEraseDataMemory 3) := by decide
theorem test_decode_wireBeginProgrammingExternallyTimed :
    decode (.transaction 0b0000000000000000_00_011000) = .ok .wireBeginProgrammingExternallyTimed := by decide

/-- Illegal requests (R108; H1 to H5). -/
theorem test_decode_refuses_requests :
    decode (.request 0x00000000) = .error (.unassignedOp 0) ∧
    decode (.request 0x0F123456) = .error (.unassignedOp 0x0F) ∧
    decode (.request 0x21000000) = .error (.reservedBits 1) ∧
    decode (.request 0xE1000000) = .error (.reservedBits 7) := by decide

/-- Bits that are no transaction: an unused code, a bit above the code, a start, stop or padding bit, bits after a code
without a frame (R103, R109). -/
theorem test_decode_refuses_transactions :
    decode (.transaction 0x000001) = .error (.undefinedCode 0x01) ∧
    decode (.transaction 0x00004A) = .error (.codeTooWide 1) ∧
    decode (.transaction 0x000102) = .error (.startBit 0x0001) ∧
    decode (.transaction 0x800002) = .error (.stopBit 0x8000) ∧
    decode (.transaction 0x020003) = .error (.padding 0x0200) ∧
    decode (.transaction 0x000206) = .error (.trailingBits 0x0002) := by decide

/-- The table's rows as the host numbers them: 8 bits for a code, 32 for a request. -/
theorem test_table_words :
    decodeTableWord 8 0x36 = some (.wireIncrementAddress 3) ∧ decodeTableWord 8 0x38 = none ∧
    decodeTableWord 32 0x1F000003 = some (.rest 3) := by decide

/-! ### The written form of requests (R112, R113) -/

theorem test_assemble_line : assembleLine "SEND_CMD_DATA 0x02, 0b11".toList = some 0x1B020003 := by decide

/-- A mnemonic that is none, an operand missing, an operand too large for its field. -/
theorem test_assemble_refuses :
    assembleLine "PROGRAM".toList = none ∧ assembleLine "REST".toList = none ∧
    assembleLine "SEND_CMD 256".toList = none := by decide

theorem test_assemble_program :
    assembleProgram ["START".toList, "REST 12".toList, "SHUTDOWN".toList] =
      some [0x01000000, 0x1F00000C, 0x02000000] := by decide

theorem test_expansion_readOsccal :
    expansion .readOsccal =
      [.reset, .incrementAddress, .incrementAddress, .incrementAddress, .readProgram] := by decide

/-! ### Inputs and states for the tests -/

/-- Both inputs at the level `c`, `line_in` at `b`, every other port quiet. -/
def tick (c b : Bool) : Input :=
  { clk := c, rawStb := c, lineIn := b, rst := false, reqValid := false, reqWord := 0, tsForceValid := false,
    tsForceVal := 0, mainFirst := false }

/-- `n` ticks of the LOCKED schedule after a high one, the first numbered `k` (an even number of ticks in), with
`line_in` as `line` gives it by number. -/
def ticksFrom (line : Nat → Bool) : Nat → Nat → List Input
  | _, 0 => []
  | k, n + 1 => tick (k % 2 == 1) (line k) :: ticksFrom line (k + 1) n

/-- The LOCKED ticks after a high one, `line_in` low. -/
def quiet (n : Nat) : List Input := ticksFrom (fun _ => false) 0 n

/-- `line_in` as a target drives it that answers the reads whose first samples fall on the numbers given. -/
def answering : List (Nat × Nat) → Nat → Bool
  | [], _ => false
  | (a, f) :: l, k => if a ≤ k ∧ k < a + 32 then f.testBit ((k - a) / 2) else answering l k

/-- The state S1 of spec/95_test_vectors.md: after a START from reset, before the next clock rise. -/
def started : State :=
  { State.reset with
    pm := { cur := true, pend := none }, pwr := { cur := true, pend := none }, sen := { cur := true, pend := none },
    seq := .running, done := true, req := 0x01000000, lastComp := 0b1100 }

/-- In S1, at the call of a request accepted at a clock and strobe rise. -/
def atCall : State :=
  { started with clk := true, rawStb := true, gateOpen := true, done := false, engine := .busy,
                 main := some { point := .dispatch, callers := [] } }

/-- A running engine, suspended at `p` for the callers `k` of the request `q`, before the next rise. -/
def suspendedLow (q : RequestWord) (p : Point) (k : List Frame) : State :=
  { started with req := q, done := false, engine := .busy, main := some { point := p, callers := k } }

/-- The same before the next fall, a strobe pulse open. -/
def suspendedHigh (q : RequestWord) (p : Point) (k : List Frame) : State :=
  { suspendedLow q p k with clk := true, rawStb := true, gateOpen := true, lastComp := 0b1101 }

/-- The state after one step from S1 with a table row's bits placed. -/
def after (nbits w : Nat) : Option State :=
  match step (started.withFetchWord nbits w) with
  | .next t => some t
  | .fault _ => none
  | .refused _ => none

/-- Where the engine stands after that step: the point and its callers, `ts`, and the label process. -/
def standing (nbits w : Nat) : Option (Option Process × TransportState × LabelProcess) :=
  (after nbits w).map (fun t => (t.main, t.ts, t.labelProc))

/-- The fault after that step. -/
def faultOf (nbits w : Nat) : Option (EngineState × ErrorCode × BitVec 32 × CommandLabel) :=
  (after nbits w).map (fun t => (t.engine, t.errCode, t.errInfo, t.label))

/-! ### One step per instruction, accepted in S1 -/

theorem test_step_start :
    (after 32 0x01000000).map (fun t => (t.main, t.pm.pend, t.pwr.pend, t.data.pend, t.sen.pend)) =
      some (some { point := .startPm, callers := [] }, some false, some false, some false, some false) := by decide
theorem test_step_shutdown :
    (after 32 0x02000000).map (fun t => (t.main, t.seq, t.sen.pend)) =
      some (some { point := .shutdownData, callers := [] }, .shuttingDown, none) := by decide
theorem test_step_reset :
    (after 32 0x03000000).map (fun t => (t.main, t.seq)) =
      some (some { point := .shutdownData, callers := [.resetAfterShutdown] }, .shuttingDown) := by decide
theorem test_step_programCycle :
    standing 32 0x04001234 =
      some (some { point := .sendBit 0x02 6 0, callers := [.sendFrame 0x2468, .join, .programAfterLoad 0x1234] },
        .tx, .waiting .loadProgram) := by decide
theorem test_step_programCycle_too_wide :
    faultOf 32 0x04004000 = some (.faulted, .dataWidth, 0x4000, .none) := by decide
theorem test_step_readOsccal :
    standing 32 0x05000000 =
      some (some { point := .shutdownData, callers := [.resetAfterShutdown, .osccalAfterReset] }, .rest, .idle) := by
  decide
theorem test_step_readIdBandgap :
    standing 32 0x06000000 =
      some (some { point := .shutdownData, callers := [.resetAfterShutdown, .idAfterReset] }, .rest, .idle) := by decide
theorem test_step_bulkEraseDevice :
    faultOf 32 0x07000000 = some (.faulted, .precondition, 0, .none) := by decide
theorem test_step_cleanDevice :
    standing 32 0x08000000 =
      some (some { point := .shutdownData, callers := [.resetAfterShutdown, .osccalAfterReset, .cleanAfterOsccal] },
        .rest, .idle) := by decide
theorem test_step_session :
    standing 32 0x09000000 =
      some (some { point := .shutdownData,
                   callers := [.resetAfterShutdown, .osccalAfterReset, .cleanAfterOsccal, .sessionAfterClean] },
        .rest, .idle) := by decide
theorem test_step_loadConfig :
    standing 32 0x10003FFF =
      some (some { point := .sendBit 0x00 6 0, callers := [.sendFrame 0x7FFE, .join] }, .tx, .waiting .loadConfig) := by
  decide
theorem test_step_loadProgram :
    standing 32 0x11001234 =
      some (some { point := .sendBit 0x02 6 0, callers := [.sendFrame 0x2468, .join] }, .tx, .waiting .loadProgram) := by
  decide
theorem test_step_loadProgram_too_wide :
    faultOf 32 0x11004000 = some (.faulted, .dataWidth, 0x4000, .none) := by decide
theorem test_step_loadData :
    standing 32 0x120000A5 =
      some (some { point := .sendBit 0x03 6 0, callers := [.sendFrame 0x014A, .join] }, .tx, .waiting .loadData) := by
  decide
theorem test_step_loadData_too_wide :
    faultOf 32 0x12000100 = some (.faulted, .byteWidth, 0x100, .none) := by decide
theorem test_step_incrementAddress :
    standing 32 0x13FF1234 =
      some (some { point := .sendBit 0x06 6 0, callers := [.join] }, .tx, .waiting .incrementAddress) := by decide
theorem test_step_endProgramming :
    standing 32 0x14000000 =
      some (some { point := .sendBit 0x0A 6 0, callers := [.join] }, .tx, .waiting .endProgramming) := by decide
theorem test_step_readProgram :
    standing 32 0x15000000 =
      some (some { point := .sendBit 0x04 6 0, callers := [.readFrame .word, .join, .writeResult] }, .tx,
        .waiting .readProgram) := by decide
theorem test_step_readData :
    standing 32 0x16000000 =
      some (some { point := .sendBit 0x05 6 0, callers := [.readFrame .byte, .join, .writeResult] }, .tx,
        .waiting .readData) := by decide
theorem test_step_beginProgram :
    standing 32 0x17000000 =
      some (some { point := .sendBit 0x08 6 0, callers := [.timedRest 3, .join] }, .tx, .waiting .beginProgram) := by
  decide
theorem test_step_eraseProgram :
    standing 32 0x18000000 =
      some (some { point := .sendBit 0x09 6 0, callers := [.timedRest 3, .join] }, .tx, .waiting .eraseProgram) := by
  decide
theorem test_step_eraseData :
    standing 32 0x19000000 =
      some (some { point := .sendBit 0x0B 6 0, callers := [.timedRest 3, .join] }, .tx, .waiting .eraseData) := by decide
theorem test_step_sendCmd :
    standing 32 0x1A3F0000 = some (some { point := .sendBit 0x3F 6 0, callers := [] }, .tx, .idle) := by decide
theorem test_step_sendCmd_too_wide :
    faultOf 32 0x1A400000 = some (.faulted, .cmdWidth, 64, .none) := by decide
theorem test_step_sendCmdData :
    standing 32 0x1B023FFF = some (some { point := .sendBit 0x02 6 0, callers := [.sendFrame 0x7FFE] }, .tx, .idle) := by
  decide
theorem test_step_sendCmdData_code_first :
    faultOf 32 0x1B404000 = some (.faulted, .cmdWidth, 64, .none) := by decide
theorem test_step_sendCmdByte :
    standing 32 0x1C0300FF = some (some { point := .sendBit 0x03 6 0, callers := [.sendFrame 0x01FE] }, .tx, .idle) := by
  decide
theorem test_step_sendCmdByte_too_wide :
    faultOf 32 0x1C030100 = some (.faulted, .byteWidth, 0x100, .none) := by decide
theorem test_step_sendCmdRead :
    standing 32 0x1D040000 =
      some (some { point := .sendBit 0x04 6 0, callers := [.readFrame .word, .writeResult] }, .tx, .idle) := by decide
theorem test_step_sendCmdReadByte :
    standing 32 0x1E050000 =
      some (some { point := .sendBit 0x05 6 0, callers := [.readFrame .byte, .writeResult] }, .tx, .idle) := by decide
theorem test_step_rest :
    (after 32 0x1F000005).map (fun t => (t.main, t.ts, t.sen)) =
      some (some { point := .restFirst 5, callers := [] }, .rest, { cur := true, pend := some false }) := by decide
theorem test_step_rest_zero :
    (after 32 0x1F000000).map (fun t => (t.main, t.engine, t.done, t.sen, t.ts)) =
      some (none, .idle, true, { cur := true, pend := none }, .rest) := by decide
theorem test_step_wireLoadConfiguration :
    standing 24 0x7FFE30 = some (some { point := .sendBit 0x30 6 0, callers := [.sendFrame 0x7FFE] }, .tx, .idle) := by
  decide
theorem test_step_wireLoadDataForProgramMemory :
    standing 8 0x12 = some (some { point := .sendBit 0x12 6 0, callers := [.sendFrame 0] }, .tx, .idle) := by decide
theorem test_step_wireIncrementAddress :
    standing 8 0x26 = some (some { point := .sendBit 0x26 6 0, callers := [] }, .tx, .idle) := by decide
theorem test_step_wireEndProgramming :
    standing 8 0x0A = some (some { point := .sendBit 0x0A 6 0, callers := [] }, .tx, .idle) := by decide
theorem test_step_wireLoadDataForDataMemory :
    standing 24 0x01FE03 = some (some { point := .sendBit 0x03 6 0, callers := [.sendFrame 0x01FE] }, .tx, .idle) := by
  decide
theorem test_step_wireReadDataFromProgramMemory :
    standing 8 0x04 = some (some { point := .sendBit 0x04 6 0, callers := [.readFrame .word] }, .tx, .idle) := by decide
theorem test_step_wireReadDataFromDataMemory :
    standing 8 0x35 = some (some { point := .sendBit 0x35 6 0, callers := [.readFrame .byte] }, .tx, .idle) := by decide
theorem test_step_wireBeginProgrammingInternallyTimed :
    standing 8 0x08 = some (some { point := .sendBit 0x08 6 0, callers := [.timedRest 3] }, .tx, .idle) := by decide
theorem test_step_wireBulkEraseProgramMemory :
    standing 8 0x19 = some (some { point := .sendBit 0x19 6 0, callers := [.timedRest 3] }, .tx, .idle) := by decide
theorem test_step_wireBulkEraseDataMemory :
    standing 8 0x0B = some (some { point := .sendBit 0x0B 6 0, callers := [.timedRest 3] }, .tx, .idle) := by decide
theorem test_step_wireBeginProgrammingExternallyTimed :
    standing 8 0x18 = some (some { point := .sendBit 0x18 6 0, callers := [] }, .tx, .idle) := by decide

/-- An illegal word accepted (H3). -/
theorem test_step_illegal_request :
    faultOf 32 0x0F123456 = some (.faulted, .illegalRequest, 0x0F123456, .none) := by decide

/-! ### Witnesses: for every statement with hypotheses, states and inputs that meet them -/

/-- The input at which the request word `q` is presented at a rise of both inputs. -/
def asking (q : RequestWord) : Input := { tick true false with reqValid := true, reqWord := q }

/-- A tick with the TransportState force at `v`. -/
def forcing (c : Bool) (v : BitVec 2) : Input := { tick c false with tsForceValid := true, tsForceVal := v }

/-- The cache after both identity reads of L2.6. -/
def fullCache : IdentityCache :=
  { osccalValid := true, osccal := 0x3456, idValid := true, id0 := 0x100, id1 := 0x101, id2 := 0x102, id3 := 0x103,
    bandgapValid := true, bandgap := 0x104 }

theorem witness_DecodeInvertsEncode : (Instr.wireLoadDataForDataMemory 3 0x01FE).wellFormed = true := by decide

theorem witness_EncodeInvertsTransactionDecode :
    decode (.transaction 0x01FE33) = .ok (.wireLoadDataForDataMemory 3 0x01FE) := by decide

/-- The two clauses, at words that differ by one. -/
theorem witness_RequestDecode :
    illegalWord 0x20000000 ∧ ¬ illegalWord 0x1FFFFFFF ∧ decodeRequest 0x1FFFFFFF = .ok (.rest 0xFFFF) := by
  unfold illegalWord
  decide

/-- The largest payloads. -/
theorem witness_FrameLayout : (16383#16).toNat < 16384 ∧ (255#16).toNat < 256 := by decide

theorem witness_BlockResetAppliesTable :
    (levelEvents started { tick true false with rst := true }).any = true ∧
    ({ tick true false with rst := true } : Input).rst = true := by decide

theorem witness_NoEdgeNoChange :
    (tick false true).clk = started.clk ∧ rawLevel started.params (tick false true) = started.rawStb := by decide

theorem witness_InputsTracked :
    (levelEvents started (tick true true)).any = true ∧ ∃ t, step (started.feed (tick true true)) = .next t :=
  ⟨by decide, _, rfl⟩

/-- An instant whose gated strobe rises, and one whose gated strobe falls. -/
theorem witness_StrobeGate :
    (plainInstant (tick true false) started = true ∧
      ∃ t, step (started.feed (tick true false)) = .next t ∧ t.gateOpen = true) ∧
    (plainInstant (tick false false) (suspendedHigh 0x1A000000 (.sendBit 0 6 1) []) = true ∧
      ∃ t, step ((suspendedHigh 0x1A000000 (.sendBit 0 6 1) []).feed (tick false false)) = .next t ∧
        t.gateOpen = false) :=
  ⟨⟨by decide, _, rfl, by decide⟩, by decide, _, rfl, by decide⟩

/-- An instant at which a pending write commits. -/
theorem witness_CommitTakesPending :
    let s := { started with sen := { cur := false, pend := some true } }
    plainInstant (tick true false) s = true ∧ ∃ t, step (s.feed (tick true false)) = .next t ∧ t.sen.cur = true :=
  ⟨by decide, _, rfl, by decide⟩

/-- An instant with a notification, and one without. -/
theorem witness_NotificationOnChange :
    (plainInstant (tick true false) started = true ∧
      ∃ t, step (started.feed (tick true false)) = .next t ∧ t.compValid = true) ∧
    (plainInstant { tick true false with rawStb := false } started = true ∧
      ∃ t, step (started.feed { tick true false with rawStb := false }) = .next t ∧ t.compValid = false) :=
  ⟨⟨by decide, _, rfl, by decide⟩, by decide, _, rfl, by decide⟩

/-- A force of the largest value that acts, the value 3, and an engine without the force input. -/
theorem witness_ForceActsInStepFive :
    (levelEvents started (forcing true 2)).any = true ∧ started.params.hasTsForce = true ∧
    (forcing true 2).tsForceVal = TransportState.rest.code ∧ (forcing true 3).tsForceVal = 3 ∧
    ({ started with params := { started.params with hasTsForce := false } } : State).params.hasTsForce = false := by
  decide

theorem witness_StepRunsAcceptedRequest :
    (asking 0x01000000).rst = false ∧ presented (asking 0x01000000) State.reset = true ∧
    State.reset.labelProc = .idle ∧ decodeRequest 0x01000000 = .ok .start := by decide

/-- Bits that are a transaction, and bits that are none. -/
theorem witness_StepRunsPlacedTransaction :
    let s (w : TransactionWord) := suspendedLow 0x01000000 (.transact w) []
    plainInstant (tick true false) (s 0x0A) = true ∧ (s 0x0A).engine = .busy ∧ (s 0x0A).labelProc = .idle ∧
    (s 0x0A).main = some { point := .transact 0x0A, callers := [] } ∧
    decodeTransaction 0x0A = .ok .wireEndProgramming ∧ decodeTransaction 0x01 = .error (.undefinedCode 1) := by decide

theorem witness_FetchedWordRuns :
    decodeTableWord 32 0x01000000 = some .start ∧ decodeTableWord 8 0x0A = some .wireEndProgramming := by decide

/-- An instant of acceptance, and one of an idle engine without. -/
theorem witness_ReqWrittenOnlyAtAcceptance :
    (plainInstant (asking 0x01000000) State.reset = true ∧ presented (asking 0x01000000) State.reset = true ∧
      ∃ t, step (State.reset.feed (asking 0x01000000)) = .next t) ∧
    (plainInstant (tick true false) State.reset = true ∧ presented (tick true false) State.reset = false ∧
      State.reset.main = none ∧ State.reset.labelProc = .idle ∧
      ∃ t, step (State.reset.feed (tick true false)) = .next t) :=
  ⟨⟨by decide, by decide, _, rfl⟩, by decide, by decide, rfl, rfl, _, rfl⟩

/-- The least word with `rsv` not 0, and the greatest unassigned op. -/
theorem witness_IllegalRequestFaults :
    (asking 0x20000000).rst = false ∧ presented (asking 0x20000000) State.reset = true ∧
    illegalWord 0x20000000 ∧ presented (asking 0x0FFFFFFF) State.reset = true ∧ illegalWord 0x0FFFFFFF := by
  unfold illegalWord
  decide

/-- An instant at which a request completes, and one at which a request is accepted. -/
theorem witness_DoneFlag :
    (invariant (suspendedLow 0x1F000001 (.restFirst 1) []) = true ∧
      plainInstant (tick true false) (suspendedLow 0x1F000001 (.restFirst 1) []) = true ∧
      ∃ t, step ((suspendedLow 0x1F000001 (.restFirst 1) []).feed (tick true false)) = .next t ∧ t.done = true) ∧
    (invariant started = true ∧ plainInstant (asking 0x01000000) started = true ∧
      ∃ t, step (started.feed (asking 0x01000000)) = .next t ∧ t.done = false) :=
  ⟨⟨by decide, by decide, _, rfl, by decide⟩, by decide, by decide, _, rfl, by decide⟩

/-- The last sample of SEND_CMD_READ. -/
theorem witness_ResultWriters :
    let s := suspendedHigh 0x1D040000 (.readBit 16 15 0x2468) [.checkFrame .word, .writeResult]
    invariant s = true ∧ requestInvariant s = true ∧ plainInstant (tick false false) s = true ∧
    ∃ t, step (s.feed (tick false false)) = .next t ∧ t.result ≠ s.result :=
  ⟨by decide, by decide, by decide, _, rfl, by decide⟩

/-- A wait, the second bit of two, and the last. -/
theorem witness_SendBitsInstant :
    let s (k : Nat) := suspendedLow 0x1A3F0000 (.sendBit 0x3F 6 k) []
    plainInstant (tick true false) (s 4) = true ∧ (s 4).engine = .busy ∧
    (instantEvents (tick true false) (s 4)).stbRise = true ∧ 4 + 1 < 6 ∧
    (instantEvents (tick true false) (s 5)).stbRise = true ∧ 6 ≤ 5 + 1 ∧
    plainInstant { tick true false with rawStb := false } (s 5) = true ∧
    (instantEvents { tick true false with rawStb := false } (s 5)).stbRise = false := by decide

/-- A wait, and the last sample but one. -/
theorem witness_ReadBitsInstant :
    let s := suspendedHigh 0x1D040000 (.readBit 16 14 0) [.checkFrame .word, .writeResult]
    plainInstant (tick false true) s = true ∧ s.engine = .busy ∧ (instantEvents (tick false true) s).stbFall = true ∧
    14 + 1 < 16 ∧ plainInstant { tick false true with rawStb := true } s = true ∧
    (instantEvents { tick false true with rawStb := true } s).stbFall = false := by decide

/-- A transfer of each direction with the strobe gated off. -/
theorem witness_GatedTransferStalls :
    let s (p : Point) := { suspendedLow 0x1D040000 p [] with sen := { cur := false, pend := none } }
    (s (.sendBit 4 6 0)).engine = .busy ∧ (s (.sendBit 4 6 0)).main = some { point := .sendBit 4 6 0, callers := [] } ∧
    (Point.sendBit 4 6 0).callee = .sendBits ∧ (Point.readBit 16 0 0).callee = .readBits ∧
    (s (.sendBit 4 6 0)).gateOpen = false ∧ (s (.sendBit 4 6 0)).sen.settled = false ∧
    (s (.readBit 16 0 0)).sen.settled = false ∧ noReset (quiet 4) = true := by decide

/-- The cases of a rest's instant, at the counts where they meet, the rest of a verb among them. -/
theorem witness_RestInstant :
    let s (p : Point) := suspendedLow 0x1F000003 p []
    plainInstant (tick true false) (s (.restFirst 2)) = true ∧ (s (.restFirst 2)).engine = .busy ∧
    (levelEvents (s (.restFirst 2)) (tick true false)).clkRise = true ∧ 2 ≤ 2 ∧
    plainInstant { tick true false with clk := false } (s (.restFirst 1)) = true ∧
    (levelEvents (s (.restFirst 1)) { tick true false with clk := false }).clkRise = false ∧
    (levelEvents (s (.restFirst 1)) (tick true false)).clkRise = true ∧
    forcedTs (tick true false) (s (.restLoop 3 1)) = .rest ∧ 1 + 1 < 3 ∧
    (levelEvents (s (.restLoop 3 1)) (tick true false)).clkRise = true ∧ 3 ≤ 2 + 1 ∧
    forcedTs (forcing true 0) (s (.restLoop 3 1)) ≠ .rest ∧
    (let v := { suspendedLow 0x17000000 (.restLoop 3 1) [.join] with labelProc := .finished };
      plainInstant (forcing true 0) v = true ∧ v.engine = .busy ∧
      v.main = some { point := .restLoop 3 1, callers := [.join] } ∧ v.labelProc = .finished ∧
      (levelEvents v (forcing true 0)).clkRise = true ∧ forcedTs (forcing true 0) v ≠ .rest) := by decide

theorem witness_RestZeroDoesNothing : atCall.callers = [] := by decide

/-- One cycle with a force at its end, three cycles without. -/
theorem witness_RestCompletes :
    calling atCall ∧
    (1 ≤ (1#16).toNat ∧ noReset [tick false false, forcing true 0] = true ∧
      endsAtRise true (1#16).toNat [tick false false, forcing true 0] ∧ (1#16).toNat = 1) ∧
    (1 ≤ (3#16).toNat ∧ noReset (quiet 6) = true ∧ endsAtRise true (3#16).toNat (quiet 6) ∧
      noForce (quiet 6) = true) := by
  unfold calling endsAtRise
  decide

/-- The least count, a force that the last cycle does not look at, and a force between two checks of five cycles (F4);
then the rest of a verb cut at its check, and one forced after it. -/
theorem witness_RestCutShort :
    (calling atCall ∧ 2 ≤ (2#16).toNat ∧ noReset (quiet 2) = true ∧ endsAtRise true 1 (quiet 2) ∧
      (∃ t v, exec (.rest 2) atCall = .next t ∧ runOn (quiet 2) t.notify = .next v ∧
        noReset [forcing false 0, forcing true 0] = true ∧ endsAtRise true 1 [forcing false 0, forcing true 0] ∧
        restHolds v.params true v.rawStb .rest [forcing false 0] = true ∧ 1 + 1 = (2#16).toNat) ∧
      (∃ t v, exec (.rest 5) atCall = .next t ∧ runOn (quiet 2) t.notify = .next v ∧
        noReset (quiet 2 ++ [forcing false 0, tick true false]) = true ∧
        endsAtRise true 2 (quiet 2 ++ [forcing false 0, tick true false]) ∧
        restHolds v.params true v.rawStb .rest (quiet 2 ++ [forcing false 0]) = true ∧ 2 + 1 < (5#16).toNat ∧
        tsThrough v.params true v.rawStb .rest (quiet 2 ++ [forcing false 0, tick true false]) ≠ .rest)) ∧
    (transferOf .beginProgram = some { code := 0x08, tail := .rests, label := some .beginProgram } ∧ strobing atCall ∧
      lockedFrom true (quiet 13) = true ∧ (quiet 13).length = 13 ∧
      lockedLevels false [forcing true 0, forcing false 0, tick true false] = true ∧
      tsThrough atCall.params true true .rest [forcing false 0, tick true false] ≠ .rest ∧
      lockedLevels false [forcing true 0, tick false false, tick true false, forcing false 0, tick true false] = true ∧
      tsThrough atCall.params true true .rest [tick false false, tick true false] = .rest) := by
  unfold calling strobing endsAtRise
  exact ⟨⟨by decide, by decide, by decide, by decide,
    ⟨_, _, rfl, rfl, by decide, by decide, by decide, by decide⟩,
    ⟨_, _, rfl, rfl, by decide, by decide, by decide, by decide, by decide⟩⟩, by decide⟩

/-- The first bit of a code, the last, and the end, with a clock slower than the strobe. -/
theorem witness_CommandCompletesUnderFree :
    let strobe (b : Bool) : Input := { tick true false with rawStb := b }
    let is := [strobe false, strobe true, strobe false, strobe true, strobe false, strobe true, strobe false, strobe true,
      strobe false, strobe true, strobe false, strobe true]
    transferOf (.sendCmd 0x3F) = some { code := 0x3F, tail := .nothing, label := none } ∧
    atCall.params.schedule = .free ∧ calling atCall ∧ strobing atCall ∧
    noReset (is.take 2) = true ∧ endsAtStrobe true (0 + 1) (is.take 2) ∧ noReset is = true ∧ noForce is = true ∧
    endsAtStrobe true 6 is := by
  unfold calling strobing endsAtStrobe
  decide

/-- A verb, the greatest code a raw request takes, and a code of the wire. -/
theorem witness_CommandTransfersComplete :
    transferOf .incrementAddress = some { code := 0x06, tail := .nothing, label := some .incrementAddress } ∧
    transferOf (.sendCmd 63) = some { code := 0x3F, tail := .nothing, label := none } ∧
    transferOf .wireBeginProgrammingExternallyTimed = some { code := 0x18, tail := .nothing, label := none } ∧
    calling atCall ∧ strobing atCall ∧ lockedFrom true (quiet 12) = true ∧ (quiet 12).length = 12 := by
  unfold calling strobing
  decide

/-- The greatest word, the greatest byte, and a frame of the wire. -/
theorem witness_WriteTransfersComplete :
    transferOf (.loadProgram 16383) = some { code := 0x02, tail := .writes 0x7FFE, label := some .loadProgram } ∧
    transferOf (.sendCmdByte 63 255) = some { code := 0x3F, tail := .writes 0x01FE, label := none } ∧
    transferOf (.wireLoadConfiguration 3 0x7FFE) = some { code := 0x30, tail := .writes 0x7FFE, label := none } ∧
    calling atCall ∧ strobing atCall ∧ lockedFrom true (quiet 44) = true ∧ (quiet 44).length = 44 := by
  unfold calling strobing
  decide

/-- A word read and a byte read, answered with every payload bit 1. -/
theorem witness_ReadTransfersComplete :
    let is := ticksFrom (answering [(12, 0x7FFE)]) 0 43
    transferOf .readProgram = some { code := 0x04, tail := .reads .word, label := some .readProgram } ∧
    transferOf (.sendCmdReadByte 0x05) = some { code := 0x05, tail := .reads .byte, label := none } ∧
    calling atCall ∧ strobing atCall ∧ lockedFrom true is = true ∧ is.length = 43 ∧ answers is 12 0x7FFE ∧
    wellFramed 0x7FFE := by
  unfold calling strobing answers wellFramed
  decide

/-- The stop bit at 1, and the start bit. -/
theorem witness_ReadTransfersFault :
    let is (f : Nat) := ticksFrom (answering [(12, f)]) 0 43
    transferOf .readData = some { code := 0x05, tail := .reads .byte, label := some .readData } ∧
    calling atCall ∧ strobing atCall ∧ lockedFrom true (is 0x8000) = true ∧ (is 0x8000).length = 43 ∧
    answers (is 0x8000) 12 0x8000 ∧ ¬ wellFramed 0x8000 ∧ lockedFrom true (is 1) = true ∧ (is 1).length = 43 ∧
    answers (is 1) 12 1 ∧ ¬ wellFramed 1 := by
  unfold calling strobing answers wellFramed
  decide

theorem witness_TimedTransfersComplete :
    transferOf .eraseData = some { code := 0x0B, tail := .rests, label := some .eraseData } ∧
    transferOf (.wireBulkEraseProgramMemory 2) = some { code := 0x29, tail := .rests, label := none } ∧
    calling atCall ∧ strobing atCall ∧ lockedFrom true (quiet 18) = true ∧ (quiet 18).length = 18 := by
  unfold calling strobing
  decide

/-- The least operands out of range, and the greatest code in range. -/
theorem witness_WidthFaults :
    64 ≤ (64#8).toNat ∧ (63#8).toNat < 64 ∧ 16384 ≤ (16384#16).toNat ∧ 256 ≤ (256#16).toNat := by decide

/-- A clock rise, and an instant without. -/
theorem witness_LabelPublishedAtClockRise :
    let s := { suspendedLow 0x13000000 (.sendBit 6 6 0) [.join] with labelProc := .waiting .incrementAddress }
    invariant s = true ∧ s.labelProc = .waiting .incrementAddress ∧
    (plainInstant (tick true false) s = true ∧ (levelEvents s (tick true false)).clkRise = true ∧
      ∃ t, step (s.feed (tick true false)) = .next t) ∧
    (plainInstant { tick true false with clk := false } s = true ∧
      (levelEvents s { tick true false with clk := false }).clkRise = false ∧
      ∃ t, step (s.feed { tick true false with clk := false }) = .next t) :=
  ⟨by decide, rfl, ⟨by decide, by decide, _, rfl⟩, by decide, by decide, _, rfl⟩

/-- A wait for the label, and its end. -/
theorem witness_VerbWaitsForLabel :
    let s := { suspendedLow 0x13000000 (.joining 0) [] with labelProc := .waiting .incrementAddress }
    s.engine = .busy ∧ s.labelProc = .waiting .incrementAddress ∧ s.main = some { point := .joining 0, callers := [] } ∧
    plainInstant { tick true false with clk := false } s = true ∧
    (levelEvents s { tick true false with clk := false }).clkRise = false ∧
    plainInstant (tick true false) s = true ∧ (levelEvents s (tick true false)).clkRise = true := by decide

/-- A verb's label, and the None of `start`. -/
theorem witness_LabelWriters :
    (let s := { suspendedLow 0x13000000 (.sendBit 6 6 0) [.join] with labelProc := .waiting .incrementAddress };
      invariant s = true ∧ plainInstant (tick true false) s = true ∧
      ∃ t, step (s.feed (tick true false)) = .next t ∧ t.label ≠ s.label) ∧
    (let s := { suspendedLow 0x01000000 .startPm [] with label := .eraseData };
      invariant s = true ∧ plainInstant (tick true false) s = true ∧
      ∃ t, step (s.feed (tick true false)) = .next t ∧ t.label ≠ s.label) :=
  ⟨⟨by decide, by decide, _, rfl, by decide⟩, by decide, by decide, _, rfl, by decide⟩

/-- The three moves of the sequence state. -/
theorem witness_SeqWriters :
    (let s := { suspendedLow 0x01000000 .startSen [] with seq := .uninitialized };
      plainInstant (tick true false) s = true ∧
      ∃ t, step (s.feed (tick true false)) = .next t ∧ t.seq ≠ s.seq ∧ t.seq = .running) ∧
    (plainInstant (asking 0x02000000) started = true ∧
      ∃ t, step (started.feed (asking 0x02000000)) = .next t ∧ t.seq ≠ started.seq ∧ t.seq = .shuttingDown) ∧
    (let s := { suspendedLow 0x02000000 .shutdownEnd [] with seq := .shuttingDown };
      plainInstant (tick true false) s = true ∧
      ∃ t, step (s.feed (tick true false)) = .next t ∧ t.seq ≠ s.seq ∧ t.seq = .uninitialized) :=
  ⟨⟨by decide, _, rfl, by decide, by decide⟩, ⟨by decide, _, rfl, by decide, by decide⟩, by decide, _, rfl, by decide,
    by decide⟩

theorem witness_StartCompletes :
    calling atCall ∧ noReset (quiet 6) = true ∧ endsAtRise true 3 (quiet 6) ∧ noForce (quiet 6) = true := by
  unfold calling endsAtRise
  decide

theorem witness_ShutdownCompletes :
    calling atCall ∧ noReset (quiet 8) = true ∧ endsAtRise true 4 (quiet 8) ∧ noForce (quiet 8) = true := by
  unfold calling endsAtRise
  decide

theorem witness_ResetCompletes :
    calling atCall ∧ noReset (quiet 14) = true ∧ endsAtRise true 7 (quiet 14) ∧ noForce (quiet 14) = true := by
  unfold calling endsAtRise
  decide

/-- Both sequences, up to the last clock rise they await. -/
theorem witness_PowerOrder :
    calling atCall ∧ noReset (quiet 8) = true ∧ clockRises true (quiet 6) ≤ 3 ∧ clockRises true (quiet 8) ≤ 4 ∧
    atCall.pm = { cur := true, pend := none } ∧ atCall.pwr = { cur := true, pend := none } := by
  unfold calling
  decide

/-- The greatest word, read back. -/
theorem witness_ProgramCycleCompletes :
    let is := ticksFrom (answering [(74, 0x7FFE)]) 0 116
    (16383#16).toNat < 16384 ∧ calling atCall ∧ strobing atCall ∧ lockedFrom true is = true ∧ is.length = 116 ∧
    answers is 74 0x7FFE ∧ wellFramed 0x7FFE ∧ (wordOf 0x7FFE).toNat = (16383#16).toNat := by
  unfold calling strobing answers wellFramed
  decide +kernel

/-- A badly framed answer, and one that differs in one bit (S-5); then the last sample of each before the label. -/
theorem witness_ProgramCycleFaults :
    let is (f : Nat) := ticksFrom (answering [(74, f)]) 0 105
    (0x1234#16).toNat < 16384 ∧ calling atCall ∧ strobing atCall ∧
    (lockedFrom true (is 0x8000) = true ∧ (is 0x8000).length = 105 ∧ answers (is 0x8000) 74 0x8000 ∧
      ¬ wellFramed 0x8000) ∧
    (lockedFrom true (is 0x246A) = true ∧ (is 0x246A).length = 105 ∧ answers (is 0x246A) 74 0x246A ∧
      wellFramed 0x246A ∧ (wordOf 0x246A).toNat ≠ (0x1234#16).toNat) ∧
    (let s := { suspendedHigh 0x04001234 (.readBit 16 15 0x246A) [.checkFrame .word, .join, .programAfterRead 0x1234] with
                labelProc := .waiting .readProgram };
      invariant s = true ∧ plainInstant { tick true false with rawStb := false } s = true ∧ s.engine = .busy ∧
      s.main = some { point := .readBit 16 15 0x246A,
                      callers := [.checkFrame .word, .join, .programAfterRead 0x1234] } ∧
      (instantEvents { tick true false with rawStb := false } s).stbFall = true ∧
      (instantEvents { tick true true with rawStb := false } s).stbFall = true ∧
      (levelEvents s { tick true false with rawStb := false }).clkRise = false ∧
      (∀ j, j < 16 → (0x246A#16).getLsbD j = if j = 15 then false else (0x246A#16).getLsbD j) ∧
      (∀ j, j < 16 → (0xA46A#16).getLsbD j = if j = 15 then true else (0x246A#16).getLsbD j) ∧ ¬ wellFramed 0xA46A) := by
  unfold calling strobing answers wellFramed
  decide +kernel

/-- The check off; that it refuses or accepts a word is for the constant without a body to say (I-1, I-4). -/
theorem witness_ReadOsccalCompletes :
    let is := ticksFrom (answering [(62, 0x68AC)]) 0 93
    calling atCall ∧ lockedHigh atCall ∧ lockedFrom true is = true ∧ is.length = 93 ∧ answers is 62 0x68AC ∧
    wellFramed 0x68AC ∧ (atCall.params.osccalCheck && !Config.osccalValid (wordOf 0x68AC)) = false := by
  unfold calling lockedHigh answers wellFramed
  exact ⟨by decide, by decide, by decide, by decide, by decide, by decide, rfl⟩

/-- The answers of I-2. -/
theorem witness_ReadIdBandgapCompletes :
    let is := ticksFrom (answering [(70, 0x0200), (124, 0x0202), (178, 0x0204), (232, 0x0206), (322, 0x0208)]) 0 353
    calling atCall ∧ lockedHigh atCall ∧ lockedFrom true is = true ∧ is.length = 353 ∧ answers is 70 0x0200 ∧
    answers is 124 0x0202 ∧ answers is 178 0x0204 ∧ answers is 232 0x0206 ∧ answers is 322 0x0208 ∧
    wellFramed 0x0200 ∧ wellFramed 0x0202 ∧ wellFramed 0x0204 ∧ wellFramed 0x0206 ∧ wellFramed 0x0208 := by
  unfold calling lockedHigh answers wellFramed
  decide +kernel

/-- A badly framed answer to the OSCCAL read, to the first read of READ_ID_BANDGAP, to its third (I-3) and to its last. -/
theorem witness_IdentityReadFaults :
    let is (l : List (Nat × Nat)) (n : Nat) := ticksFrom (answering l) 0 n
    let third := is [(70, 0x0200), (124, 0x0202), (178, 0x8000)] 209
    let last := is [(70, 0x0200), (124, 0x0202), (178, 0x0204), (232, 0x0206), (322, 0xFFFF)] 353
    calling atCall ∧ lockedHigh atCall ∧
    (lockedFrom true (is [(62, 1)] 93) = true ∧ (is [(62, 1)] 93).length = 93 ∧ answers (is [(62, 1)] 93) 62 1 ∧
      ¬ wellFramed 1) ∧
    (0 < 5 ∧ lockedFrom true (is [(70, 0x8000)] 101) = true ∧ (is [(70, 0x8000)] 101).length = idReadAt 0 + 31 ∧
      answers (is [(70, 0x8000)] 101) (idReadAt 0) 0x8000 ∧ ¬ wellFramed 0x8000) ∧
    (2 < 5 ∧ lockedFrom true third = true ∧ third.length = idReadAt 2 + 31 ∧
      (∀ m, m < 2 → wellFramed (BitVec.ofNat 16 (0x0200 + 2 * m)) ∧
        answers third (idReadAt m) (BitVec.ofNat 16 (0x0200 + 2 * m))) ∧
      answers third (idReadAt 2) 0x8000 ∧ ¬ wellFramed 0x8000) ∧
    (4 < 5 ∧ lockedFrom true last = true ∧ last.length = idReadAt 4 + 31 ∧
      (∀ m, m < 4 → wellFramed (BitVec.ofNat 16 (0x0200 + 2 * m)) ∧
        answers last (idReadAt m) (BitVec.ofNat 16 (0x0200 + 2 * m))) ∧
      answers last (idReadAt 4) 0xFFFF ∧ ¬ wellFramed 0xFFFF) := by
  unfold calling lockedHigh answers wellFramed
  decide +kernel

/-- The cache empty, with OSCCAL only, and without the band gap only. -/
theorem witness_BulkErasePreconditions :
    atCall.cache.osccalValid = false ∧
    (let s := { atCall with cache := { IdentityCache.empty with osccalValid := true } };
      s.cache.osccalValid = true ∧ s.cache.idValid = false) ∧
    (let s := { atCall with cache := { fullCache with bandgapValid := false } };
      s.cache.osccalValid = true ∧ s.cache.idValid = true ∧ s.cache.bandgapValid = false) := by decide

theorem witness_BulkEraseCompletes :
    let s := { atCall with cache := fullCache }
    calling s ∧ strobing s ∧ s.cache.osccalValid = true ∧ s.cache.idValid = true ∧ s.cache.bandgapValid = true ∧
    lockedFrom true (quiet 36) = true ∧ (quiet 36).length = 36 := by
  unfold calling strobing
  decide

/-- The answers of the whole clean, 480 ticks. -/
theorem witness_CleanDeviceCompletes :
    let is := ticksFrom (answering [(62, 0x68AC), (162, 0x0200), (216, 0x0202), (270, 0x0204), (324, 0x0206),
      (414, 0x0208)]) 0 480
    calling atCall ∧ lockedHigh atCall ∧ lockedFrom true is = true ∧ is.length = 480 ∧ answers is 62 0x68AC ∧
    answers is 162 0x0200 ∧ answers is 216 0x0202 ∧ answers is 270 0x0204 ∧ answers is 324 0x0206 ∧
    answers is 414 0x0208 ∧ wellFramed 0x68AC ∧ wellFramed 0x0200 ∧ wellFramed 0x0202 ∧ wellFramed 0x0204 ∧
    wellFramed 0x0206 ∧ wellFramed 0x0208 ∧ atCall.params.osccalCheck = false := by
  unfold calling lockedHigh answers wellFramed
  decide +kernel

/-- The answers of SE-1, 488 ticks. -/
theorem witness_SessionCompletes :
    let is := ticksFrom (answering [(62, 0x68AC), (162, 0x0200), (216, 0x0202), (270, 0x0204), (324, 0x0206),
      (414, 0x0208)]) 0 488
    calling atCall ∧ lockedHigh atCall ∧ lockedFrom true is = true ∧ is.length = 488 ∧ answers is 62 0x68AC ∧
    answers is 162 0x0200 ∧ answers is 216 0x0202 ∧ answers is 270 0x0204 ∧ answers is 324 0x0206 ∧
    answers is 414 0x0208 ∧ wellFramed 0x68AC ∧ wellFramed 0x0200 ∧ wellFramed 0x0202 ∧ wellFramed 0x0204 ∧
    wellFramed 0x0206 ∧ wellFramed 0x0208 ∧ atCall.params.osccalCheck = false := by
  unfold calling lockedHigh answers wellFramed
  decide +kernel

/-- The last sample of the OSCCAL read, the last sample of the band-gap read, and the acceptance of SESSION with the
cache full. -/
theorem witness_CacheWriters :
    (let s := { suspendedHigh 0x05000000 (.readBit 16 15 0x68AC) [.checkFrame .word, .join, .osccalAfterRead] with
                labelProc := .finished };
      invariant s = true ∧ plainInstant (tick false false) s = true ∧
      ∃ t, step (s.feed (tick false false)) = .next t ∧ t.cache ≠ s.cache) ∧
    (let s := { suspendedHigh 0x06000000 (.readBit 16 15 0x0208)
                  [.checkFrame .word, .join, .idAfterBandgap ⟨0x100, 0x101, 0x102, 0x103, 0⟩] with
                labelProc := .finished };
      invariant s = true ∧ plainInstant (tick false false) s = true ∧
      ∃ t, step (s.feed (tick false false)) = .next t ∧ t.cache ≠ s.cache) ∧
    (let s := { started with cache := fullCache };
      invariant s = true ∧ plainInstant (asking 0x09000000) s = true ∧
      ∃ t, step (s.feed (asking 0x09000000)) = .next t ∧ t.cache ≠ s.cache) :=
  ⟨⟨by decide, by decide, _, rfl, by decide⟩, ⟨by decide, by decide, _, rfl, by decide⟩, by decide, by decide, _, rfl,
    by decide⟩

theorem witness_FaultedStays :
    let s := { started with engine := .faulted, errCode := .cmdWidth, errInfo := 64, done := false }
    s.engine = .faulted ∧ s.main = none ∧ s.labelProc = .idle ∧ noReset (asking 0x01000000 :: quiet 3) = true ∧
    noForce (asking 0x01000000 :: quiet 3) = true := by decide

/-- A step from a state that meets the invariant: the acceptance of START. -/
theorem witness_InvariantKept :
    invariant started = true ∧ ∃ t, step (started.feed (asking 0x01000000)) = .next t :=
  ⟨by decide, _, rfl⟩

/-- The same for the table of faults: a step that faults. -/
theorem witness_RequestInvariantKept :
    invariant started = true ∧ requestInvariant started = true ∧
    ∃ t, step (started.feed (asking 0x1A400000)) = .next t ∧ t.engine = .faulted :=
  ⟨by decide, by decide, _, rfl, by decide⟩

theorem witness_StepAlwaysAnswers : invariant started = true := by decide

/-- An instant at which both processes run. -/
theorem witness_ProcessOrderIrrelevant :
    let s := { suspendedLow 0x13000000 (.sendBit 6 6 0) [.join] with labelProc := .waiting .incrementAddress }
    invariant s = true ∧ ∃ t, step (s.feed (tick true false)) = .next t :=
  ⟨by decide, _, rfl⟩

end Sys2Proof.Tests
end

section
/-! The invariant of the engine: what a return and a call leave of it, operation by operation, and the step. -/

namespace Sys2Proof.Machine

/-! ### Nesting (R1, R21) -/

/-- The layer of an operation (R1). -/
def Callee.layer : Callee → Nat
  | .sendBits => 1
  | .readBits => 1
  | .rest => 1
  | .writing => 2
  | .reading => 2
  | .timed => 2
  | .verb => 3
  | .start => 4
  | .shutdown => 4
  | .reset => 4
  | .program => 4
  | .osccal => 4
  | .identity => 4
  | .bulk => 4
  | .clean => 4
  | .session => 4
  | .request => 5

/-- Control flows downward only (R1): a frame waits for no operation above its own layer. -/
theorem layer_le_of_waitsFor {f : Frame} {c : Callee} (h : f.waitsFor c = true) : c.layer ≤ f.callee.layer := by
  cases f
  case join => cases c <;> first | decide | cases h
  case writeResult => cases c <;> decide
  all_goals
    obtain rfl := beq_iff_eq.mp h
    exact Nat.le_of_ble_eq_true rfl

theorem nested_cons {c : Callee} {f : Frame} {k : List Frame} :
    nested c (f :: k) = true ↔ f.waitsFor c = true ∧ nested f.callee k = true := by
  simp [nested]

/-- No verb is in progress below an operation of layer 3 or above (R1, R69). -/
theorem join_notMem_of_nested {k : List Frame} {c : Callee} (h : nested c k = true) (hc : 3 ≤ c.layer) : .join ∉ k := by
  induction k generalizing c with
  | nil => simp
  | cons f k ih =>
    obtain ⟨hf, hk⟩ := nested_cons.mp h
    have hl := layer_le_of_waitsFor hf
    have hj : f ≠ .join := by
      rintro rfl
      cases c <;> first | exact absurd hc (by decide) | cases hf
    simpa using ⟨fun e => hj e.symm, ih hk (by omega)⟩

/-- What may wait for a whole operation may wait for the operation it calls last (R140, R141, R169). -/
theorem nested_last {c d : Callee} {k : List Frame} (h : nested c k = true)
    (hd : ∀ f : Frame, f.waitsFor c = true → f.waitsFor d = true) : nested d k = true := by
  cases k with
  | nil => rfl
  | cons f k =>
    obtain ⟨hf, hk⟩ := nested_cons.mp h
    exact nested_cons.mpr ⟨hd f hf, hk⟩

theorem nested_sendBits_of_writing {k : List Frame} (h : nested .writing k = true) : nested .sendBits k = true :=
  nested_last h fun f hf => by cases f <;> first | rfl | cases hf

theorem nested_rest_of_timed {k : List Frame} (h : nested .timed k = true) : nested .rest k = true :=
  nested_last h fun f hf => by cases f <;> first | rfl | cases hf

/-! ### Live and sound states -/

/-- What a live main process with the calling operations `k` needs of the registers: the engine Busy without an error, the
cache and the frames in range, a label process exactly while a join stands in `k` (R34, R39, R41, R69). -/
structure LiveWith (k : List Frame) (engine : EngineState) (done : Bool) (err : ErrorCode) (cache : IdentityCache)
    (l : LabelProcess) : Prop where
  busy : engine = .busy
  notDone : done = false
  noError : err = .none
  cacheOk : Machine.cacheOk cache = true
  inRange : ∀ f ∈ k, f.inRange = true
  label : .join ∈ k ↔ l ≠ .idle
  osccal : .cleanAfterId ∈ k → cache.osccalValid = true

/-- The main process is live in `s`, running on behalf of the calling operations `k`. It does not depend on the lines, `ts`,
`label`, `seq` and `result`, so their writes keep it by definition. -/
abbrev State.Live (s : State) (k : List Frame) : Prop := LiveWith k s.engine s.done s.errCode s.cache s.labelProc

/-- The part of the invariant that the processes of an instant have to restore. -/
def State.Sound (s : State) : Prop :=
  mainOk s = true ∧ cacheOk s.cache = true ∧ (s.done = true → s.engine = .idle) ∧
  (s.errCode ≠ .none ↔ s.engine = .faulted)

theorem invariant_iff (s : State) :
    invariant s = true ↔ s.Sound ∧ s.lastComp = s.composite ∧ (s.gateOpen = true → s.rawStb = true) := by
  have hb : ∀ a b : Bool, (!a || b) = true ↔ (a = true → b = true) := by decide
  have he : ((s.errCode != .none) == (s.engine == .faulted)) = true ↔ (s.errCode ≠ .none ↔ s.engine = .faulted) := by
    rw [beq_iff_eq, Bool.eq_iff_iff, bne_iff_ne, beq_iff_eq]
  unfold invariant State.Sound
  simp only [Bool.and_eq_true, hb, he, beq_iff_eq, and_assoc]

theorem processOk_iff (p : Process) (l : LabelProcess) (c : IdentityCache) :
    processOk p l c = true ↔
      p.readBackOk = true ∧ p.point.inRange = true ∧ (∀ f ∈ p.callers, f.inRange = true) ∧
      nested p.point.callee p.callers = true ∧ ((.join ∈ p.callers ∨ p.point.callee = .verb) ↔ l ≠ .idle) ∧
      (p.point.callee = .verb → l.suspended = true) ∧ (.cleanAfterId ∈ p.callers → c.osccalValid = true) := by
  have hl : (p.inVerb == (l != .idle)) = true ↔ ((.join ∈ p.callers ∨ p.point.callee = .verb) ↔ l ≠ .idle) := by
    rw [beq_iff_eq, Bool.eq_iff_iff, bne_iff_ne, Process.inVerb, Bool.or_eq_true, beq_iff_eq, List.contains_iff_mem]
  unfold processOk
  simp only [Bool.and_eq_true, hl, List.all_eq_true, and_assoc, Bool.or_eq_true, bne_iff_ne, Bool.not_eq_true',
    ← Bool.not_eq_true, List.contains_iff_mem, ← imp_iff_not_or, ne_eq]

/-- A read-back is at stake only where a verb waits for its label (R193). -/
theorem readBackOk_of_not_verb {p : Point} (k : List Frame) (h : p.callee ≠ .verb) :
    Process.readBackOk { point := p, callers := k } = true := by
  cases p <;> first | rfl | exact absurd rfl h

theorem mainOk_some {s : State} {p : Process} (h : s.main = some p) :
    mainOk s = true ↔ s.engine = .busy ∧ processOk p s.labelProc s.cache = true := by
  simp [mainOk, h]

theorem mainOk_none {s : State} (h : s.main = none) : mainOk s = true ↔ s.engine ≠ .busy ∧ s.labelProc = .idle := by
  simp [mainOk, h]

namespace LiveWith

variable {k : List Frame} {s : State}

/-- A live process that suspends outside a join leaves a sound state. -/
theorem suspend {p : Point} (h : s.Live k) (hp : p.inRange = true) (hn : nested p.callee k = true)
    (hv : p.callee ≠ .verb) : (s.suspend p k).Sound := by
  have hm : processOk { point := p, callers := k } s.labelProc s.cache = true :=
    (processOk_iff _ _ _).mpr ⟨readBackOk_of_not_verb k hv, hp, h.inRange, hn, by simpa [hv] using h.label,
      fun e => absurd e hv, h.osccal⟩
  exact ⟨(mainOk_some rfl).mpr ⟨h.busy, hm⟩, h.cacheOk, by simp [h.notDone], by simp [h.noError, h.busy]⟩

/-- A live process that raises a fault leaves a sound state (R253). -/
theorem raise {c : ErrorCode} (h : s.Live k) (hc : c ≠ .none) (x : BitVec 32) : (s.raise c x).Sound :=
  ⟨rfl, h.cacheOk, by simp [h.notDone], by simp [hc]⟩

/-- A live process without callers that ends leaves a sound state (R223). -/
theorem complete (h : s.Live []) : s.complete.Sound :=
  ⟨(mainOk_none rfl).mpr ⟨by simp, by simpa using h.label⟩, h.cacheOk, by simp, by simp [h.noError]⟩

/-- A further call, other than the body of a verb. -/
theorem push {f : Frame} (h : s.Live k) (hf : f.inRange = true) (hj : f ≠ .join)
    (hc : f = .cleanAfterId → s.cache.osccalValid = true) : s.Live (f :: k) where
  busy := h.busy
  notDone := h.notDone
  noError := h.noError
  cacheOk := h.cacheOk
  inRange := by simpa [hf] using h.inRange
  label := by simpa [hj.symm] using h.label
  osccal := by
    rintro hm
    rcases List.mem_cons.mp hm with e | hm
    · exact hc e.symm
    · exact h.osccal hm

/-- A return to a calling operation, other than a verb at its join. -/
theorem pop {f : Frame} (h : s.Live (f :: k)) (hj : f ≠ .join) : s.Live k where
  busy := h.busy
  notDone := h.notDone
  noError := h.noError
  cacheOk := h.cacheOk
  inRange := fun g hg => h.inRange g (List.mem_cons_of_mem f hg)
  label := by simpa [hj.symm] using h.label
  osccal := fun hm => h.osccal (List.mem_cons_of_mem f hm)

/-- The fork of a verb (R161). -/
theorem fork (h : s.Live k) (v : CommandLabel) : (s.setLabelProc (.waiting v)).Live (.join :: k) where
  busy := h.busy
  notDone := h.notDone
  noError := h.noError
  cacheOk := h.cacheOk
  inRange := by simpa [Frame.inRange] using h.inRange
  label := by simp
  osccal := by simpa using h.osccal

/-- The join of a verb (R70, R161). -/
theorem joined (h : s.Live (.join :: k)) (hn : nested .verb k = true) : (s.setLabelProc .idle).Live k where
  busy := h.busy
  notDone := h.notDone
  noError := h.noError
  cacheOk := h.cacheOk
  inRange := fun g hg => h.inRange g (List.mem_cons_of_mem _ hg)
  label := by simpa using join_notMem_of_nested hn (by decide)
  osccal := fun hm => h.osccal (List.mem_cons_of_mem _ hm)

/-- A write of the cache that keeps it well formed and the OSCCAL word valid. -/
theorem setCache {c : IdentityCache} (h : s.Live k) (hc : Machine.cacheOk c = true)
    (ho : s.cache.osccalValid = true → c.osccalValid = true) : (s.setCache c).Live k where
  busy := h.busy
  notDone := h.notDone
  noError := h.noError
  cacheOk := hc
  inRange := h.inRange
  label := h.label
  osccal := fun hm => ho (h.osccal hm)

end LiveWith

/-! ### Writes of the cache (R39, R196, R197) -/

theorem cacheOk_osccal {c : IdentityCache} (h : cacheOk c = true) (w : Word14) :
    cacheOk { c with osccal := w, osccalValid := true } = true := by
  simp only [cacheOk, Bool.and_eq_true] at h ⊢
  obtain ⟨⟨-, hv⟩, hi⟩ := h
  exact ⟨⟨rfl, hv⟩, hi⟩

theorem cacheOk_idStore {s : State} (h : cacheOk s.cache = true) (v : FiveWords) :
    cacheOk (idStore v s).cache = true := by
  simp only [cacheOk, Bool.and_eq_true] at h ⊢
  obtain ⟨⟨ho, -⟩, -⟩ := h
  exact ⟨⟨ho, rfl⟩, rfl⟩

/-- The frame of a payload of at most 14 bits has start bit and stop bit 0 (R103). -/
theorem wordFrameOk_writeFrame {d : Arg} (h : d.toNat < 16384) : wordFrameOk (writeFrame d) = true := by
  have h14 : d.getLsbD 14 = false := Nat.testBit_lt_two_pow h
  simpa [wordFrameOk, writeFrame] using h14

/-! ### Calls leave sound states -/

section calls

variable {k : List Frame} {s : State}

theorem callSendBits_sound (v : WireFrame) {n : Nat} (h : s.Live k) (hn : nested .sendBits k = true)
    (h6 : n = 6 ∨ n = 16) : (callSendBits v n k s).Sound := by
  have hl : (s.setTs .tx).Live k := h
  rcases h6 with rfl | rfl
  · exact hl.suspend rfl hn (by simp [Point.callee])
  · exact hl.suspend rfl hn (by simp [Point.callee])

theorem callReadBits_sound (h : s.Live k) (hn : nested .readBits k = true) : (callReadBits 16 k s).Sound := by
  have hl : (s.setTs .rx).Live k := h
  exact hl.suspend rfl hn (by decide)

theorem callStart_sound (h : s.Live k) (hn : nested .start k = true) : (callStart k s).Sound := by
  have hl : ((((s.writePm false).writePwr false).writeData false).writeSen false).Live k := h
  exact hl.suspend rfl hn (by decide)

theorem callShutdown_sound (h : s.Live k) (hn : nested .shutdown k = true) : (callShutdown k s).Sound := by
  have hl : (s.setSeq .shuttingDown).Live k := h
  exact hl.suspend rfl hn (by decide)

theorem callReset_sound (h : s.Live k) (hn : nested .reset k = true) : (callReset k s).Sound :=
  callShutdown_sound (h.push rfl (by decide) (by simp)) (nested_cons.mpr ⟨rfl, hn⟩)

theorem callReadOsccal_sound (h : s.Live k) (hn : nested .osccal k = true) : (callReadOsccal k s).Sound :=
  callReset_sound (h.push rfl (by decide) (by simp)) (nested_cons.mpr ⟨rfl, hn⟩)

theorem callReadIdBandgap_sound (h : s.Live k) (hn : nested .identity k = true) : (callReadIdBandgap k s).Sound :=
  callReset_sound (h.push rfl (by decide) (by simp)) (nested_cons.mpr ⟨rfl, hn⟩)

/-! The framing operations, called by nothing that waits for a whole one (R139 to R144). -/

theorem callSendCommand_sound (c : Cmd) (h : s.Live k) (hn : nested .sendBits k = true) :
    (callSendCommand c k s).Sound := by
  rcases callSendCommand_cases c k s with ⟨-, e⟩ | ⟨-, e⟩
  · exact e ▸ h.raise (by decide) _
  · exact e ▸ callSendBits_sound _ h hn (.inl rfl)

/-- A transaction that sends a frame, or reads one, after its code. -/
theorem transaction_sound {f : Frame} (v : WireFrame) (h : s.Live k) (hn : nested f.callee k = true)
    (hf : f.inRange = true) (hw : f.waitsFor .sendBits = true) (hj : f ≠ .join) (hc : f ≠ .cleanAfterId) :
    (callSendBits v 6 (f :: k) s).Sound :=
  callSendBits_sound v (h.push hf hj fun e => absurd e hc) (nested_cons.mpr ⟨hw, hn⟩) (.inl rfl)

theorem callSendCommandAndData_sound (c : Cmd) (d : Arg) (h : s.Live k) (hn : nested .writing k = true) :
    (callSendCommandAndData c d k s).Sound := by
  rcases callSendCommandAndData_cases c d k s with ⟨-, e⟩ | ⟨-, -, e⟩ | ⟨-, hd, e⟩
  · exact e ▸ h.raise (by decide) _
  · exact e ▸ h.raise (by decide) _
  · exact e ▸ transaction_sound _ h hn (wordFrameOk_writeFrame hd) rfl (by simp) (by simp)

theorem callSendCommandAndByteData_sound (c : Cmd) (d : Arg) (h : s.Live k) (hn : nested .writing k = true) :
    (callSendCommandAndByteData c d k s).Sound := by
  rcases callSendCommandAndByteData_cases c d k s with ⟨-, e⟩ | ⟨-, -, e⟩ | ⟨-, hd, e⟩
  · exact e ▸ h.raise (by decide) _
  · exact e ▸ h.raise (by decide) _
  · exact e ▸ transaction_sound _ h hn (wordFrameOk_writeFrame (by omega)) rfl (by simp) (by simp)

theorem callSendCommandAndReadData_sound (c : Cmd) (h : s.Live k) (hn : nested .reading k = true) :
    (callSendCommandAndReadData c k s).Sound := by
  rcases callSendCommandAndReadData_cases c k s with ⟨-, e⟩ | ⟨-, e⟩
  · exact e ▸ h.raise (by decide) _
  · exact e ▸ transaction_sound _ h hn rfl rfl (by simp) (by simp)

theorem callSendCommandAndReadByteData_sound (c : Cmd) (h : s.Live k) (hn : nested .reading k = true) :
    (callSendCommandAndReadByteData c k s).Sound := by
  rcases callSendCommandAndReadByteData_cases c k s with ⟨-, e⟩ | ⟨-, e⟩
  · exact e ▸ h.raise (by decide) _
  · exact e ▸ transaction_sound _ h hn rfl rfl (by simp) (by simp)

/-- A verb whose body is its code alone. -/
theorem verb_sound (v : WireFrame) (l : CommandLabel) (h : s.Live k) (hn : nested .verb k = true) :
    (callSendBits v 6 (.join :: k) (s.setLabelProc (.waiting l))).Sound :=
  callSendBits_sound v (h.fork l) (nested_cons.mpr ⟨rfl, hn⟩) (.inl rfl)

/-- A verb whose body goes on at the frame `f` once its code has been sent. -/
theorem verbThen_sound {f : Frame} (v : WireFrame) (l : CommandLabel) (h : s.Live k) (hn : nested .verb k = true)
    (hf : f.inRange = true) (hw : f.waitsFor .sendBits = true) (hj : Frame.join.waitsFor f.callee = true)
    (hfj : f ≠ .join) (hc : f ≠ .cleanAfterId) :
    (callSendBits v 6 (f :: .join :: k) (s.setLabelProc (.waiting l))).Sound :=
  transaction_sound v (h.fork l) (nested_cons.mpr ⟨hj, hn⟩) hf hw hfj hc

theorem callLoadConfig_sound (d : Arg) (h : s.Live k) (hn : nested .verb k = true) :
    (callLoadConfig d k s).Sound := by
  rcases callLoadConfig_cases d k s with ⟨-, e⟩ | ⟨hd, e⟩
  · exact e ▸ (h.fork _).raise (by decide) _
  · exact e ▸ verbThen_sound _ _ h hn (wordFrameOk_writeFrame hd) rfl rfl (by simp) (by simp)

theorem callLoadData_sound (d : Arg) (h : s.Live k) (hn : nested .verb k = true) : (callLoadData d k s).Sound := by
  rcases callLoadData_cases d k s with ⟨-, e⟩ | ⟨hd, e⟩
  · exact e ▸ (h.fork _).raise (by decide) _
  · exact e ▸ verbThen_sound _ _ h hn (wordFrameOk_writeFrame (by omega)) rfl rfl (by simp) (by simp)

theorem callIncrementAddress_sound (h : s.Live k) (hn : nested .verb k = true) :
    (callIncrementAddress k s).Sound := verb_sound _ _ h hn

theorem callEndProgramming_sound (h : s.Live k) (hn : nested .verb k = true) :
    (callEndProgramming k s).Sound := verb_sound _ _ h hn

theorem callReadProgram_sound (h : s.Live k) (hn : nested .verb k = true) : (callReadProgram k s).Sound :=
  verbThen_sound _ _ h hn rfl rfl rfl (by simp) (by simp)

theorem callReadData_sound (h : s.Live k) (hn : nested .verb k = true) : (callReadData k s).Sound :=
  verbThen_sound _ _ h hn rfl rfl rfl (by simp) (by simp)

theorem callBeginProgram_sound (h : s.Live k) (hn : nested .verb k = true) : (callBeginProgram k s).Sound :=
  verbThen_sound _ _ h hn rfl rfl rfl (by simp) (by simp)

theorem callEraseProgram_sound (h : s.Live k) (hn : nested .verb k = true) : (callEraseProgram k s).Sound :=
  verbThen_sound _ _ h hn rfl rfl rfl (by simp) (by simp)

theorem callEraseData_sound (h : s.Live k) (hn : nested .verb k = true) : (callEraseData k s).Sound :=
  verbThen_sound _ _ h hn rfl rfl rfl (by simp) (by simp)

/-- The word of `programCycle` is in range wherever its frames stand (R193). -/
theorem callProgramCycle_sound (d : Arg) (h : s.Live k) (hn : nested .program k = true) :
    (callProgramCycle d k s).Sound := by
  unfold callProgramCycle
  rcases callLoadProgram_cases d (.programAfterLoad d :: k) s with ⟨-, e⟩ | ⟨hd, e⟩
  · exact e ▸ (h.fork _).raise (by decide) _
  · have hr : (Frame.programAfterLoad d).inRange = true := by simpa [Frame.inRange, wordTooWide] using hd
    exact e ▸ verbThen_sound _ _ (h.push hr (by simp) (by simp)) (nested_cons.mpr ⟨rfl, hn⟩)
      (wordFrameOk_writeFrame hd) rfl rfl (by simp) (by simp)

theorem callLoadProgram_sound (d : Arg) (h : s.Live k) (hn : nested .verb k = true) :
    (callLoadProgram d k s).Sound := by
  rcases callLoadProgram_cases d k s with ⟨-, e⟩ | ⟨hd, e⟩
  · exact e ▸ (h.fork _).raise (by decide) _
  · exact e ▸ verbThen_sound _ _ h hn (wordFrameOk_writeFrame hd) rfl rfl (by simp) (by simp)

theorem osccalLoop_sound {i : Nat} (hi : 1 ≤ i) (h : s.Live k) (hn : nested .osccal k = true) :
    (osccalLoop i k s).Sound := by
  rcases Nat.lt_or_ge 3 i with h3 | h3
  · rw [osccalLoop_last k s h3]
    exact callReadProgram_sound (h.push rfl (by simp) (by simp)) (nested_cons.mpr ⟨rfl, hn⟩)
  · rw [osccalLoop_more k s h3]
    exact callIncrementAddress_sound
      (h.push (by simp [Frame.inRange, Config.osccalIncrements, hi, h3]) (by simp) (by simp))
      (nested_cons.mpr ⟨rfl, hn⟩)

theorem idSkipLoop_sound {i : Nat} (v : FiveWords) (hi : 1 ≤ i) (h : s.Live k) (hn : nested .identity k = true) :
    (idSkipLoop i v k s).Sound := by
  rcases Nat.lt_or_ge 3 i with h3 | h3
  · rw [idSkipLoop_last v k s h3]
    exact callReadProgram_sound (h.push rfl (by simp) (by simp)) (nested_cons.mpr ⟨rfl, hn⟩)
  · rw [idSkipLoop_more v k s h3]
    exact callIncrementAddress_sound (h.push (by simp [Frame.inRange, Config.idSkip, hi, h3]) (by simp) (by simp))
      (nested_cons.mpr ⟨rfl, hn⟩)

theorem idReadLoop_sound (n : Nat) (v : FiveWords) (h : s.Live k) (hn : nested .identity k = true) :
    (idReadLoop n v k s).Sound := by
  rcases Nat.lt_or_ge n 4 with h4 | h4
  · rw [idReadLoop_more v k s h4]
    exact callReadProgram_sound (h.push (by simp [Frame.inRange, Config.idWords, h4]) (by simp) (by simp))
      (nested_cons.mpr ⟨rfl, hn⟩)
  · rw [idReadLoop_last v k s h4]
    exact callIncrementAddress_sound (h.push rfl (by simp) (by simp)) (nested_cons.mpr ⟨rfl, hn⟩)

theorem callBulkEraseDevice_sound (h : s.Live k) (hn : nested .bulk k = true) : (callBulkEraseDevice k s).Sound := by
  rcases callBulkEraseDevice_cases k s with ⟨-, e⟩ | ⟨-, -, e⟩ | ⟨-, -, -, e⟩ | ⟨-, -, -, e⟩
  · exact e ▸ h.raise (by decide) _
  · exact e ▸ h.raise (by decide) _
  · exact e ▸ h.raise (by decide) _
  · exact e ▸ callEraseProgram_sound (h.push rfl (by simp) (by simp)) (nested_cons.mpr ⟨rfl, hn⟩)

theorem programVerify_sound (d : Arg) (w : Word14) (h : s.Live k) (hn : nested .program k = true) :
    (programVerify d w k s).Sound := by
  rcases programVerify_cases d w k s with ⟨hw, e⟩ | ⟨-, e⟩
  · have hr : (Frame.programAfterIncrement d w).inRange = true := by
      simpa [Frame.inRange, ← BitVec.toNat_inj, Nat.mod_eq_of_lt (show w.toNat < 65536 by omega)] using hw
    exact e ▸ callIncrementAddress_sound (h.push hr (by simp) (by simp)) (nested_cons.mpr ⟨rfl, hn⟩)
  · exact e ▸ h.raise (by decide) _

end calls

/-! ### Returns leave sound states -/

theorem exists_joining_of_callee {p : Point} (h : p.callee = .verb) : ∃ x, p = .joining x := by
  cases p <;> first | exact ⟨_, rfl⟩ | cases h

theorem exists_waiting_of_suspended {l : LabelProcess} (h : l.suspended = true) : ∃ v, l = .waiting v := by
  cases l <;> first | exact ⟨_, rfl⟩ | cases h

/-- A label process is waiting exactly if it is neither absent nor finished (R161). -/
theorem suspended_iff (l : LabelProcess) : l.suspended = true ↔ l ≠ .idle ∧ l ≠ .finished := by
  cases l <;> simp [LabelProcess.suspended]

/-- A verb whose protocol branch has ended with the right word waits for its label (R70, R161, R193). -/
theorem suspend_joining_sound {k : List Frame} {s : State} {x : WireFrame} (h : s.Live (.join :: k))
    (hn : nested .verb k = true) (hf : s.labelProc ≠ .finished)
    (hb : ∀ d c, k = .programAfterRead d :: c → (x.setWidth 14).toNat = d.toNat) :
    (s.suspend (.joining x) k).Sound := by
  have hl : s.labelProc ≠ .idle := h.label.mp List.mem_cons_self
  have hr : Process.readBackOk { point := .joining x, callers := k } = true := by
    unfold Process.readBackOk
    split
    · rename_i y d c hy hk
      cases hy
      rw [beq_iff_eq, ← BitVec.toNat_inj, BitVec.toNat_setWidth, hb d c hk, Nat.mod_eq_of_lt d.isLt]
    · rfl
  have hm : processOk { point := .joining x, callers := k } s.labelProc s.cache = true :=
    (processOk_iff _ _ _).mpr ⟨hr, rfl, fun g hg => h.inRange g (List.mem_cons_of_mem _ hg), hn,
      by simpa [Point.callee] using hl, fun _ => (suspended_iff _).mpr ⟨hl, hf⟩,
      fun hm => h.osccal (List.mem_cons_of_mem _ hm)⟩
  exact ⟨(mainOk_some rfl).mpr ⟨h.busy, hm⟩, h.cacheOk, by simp [h.notDone], by simp [h.noError, h.busy]⟩

/-- The protocol branch of a verb has ended: it faults, waits for its label, or the verb returns to callers that are live
again (R70, R161, R193). -/
theorem branchEnds_sound {k : List Frame} {s : State} (x : WireFrame) {ret : WireFrame → State → State}
    (h : s.Live (.join :: k)) (hn : nested .verb k = true)
    (hret : ∀ t : State, t.Live k → (ret x t).Sound) : ((branchEnds x k s).andThen ret).Sound := by
  rcases branchEnds_cases x k s with ⟨d, c, -, -, e⟩ | ⟨hb, e⟩
  · exact e ▸ h.raise (by decide) _
  · rw [e]
    by_cases hf : s.labelProc = .finished
    · rw [joinNext_finished x k hf]
      exact hret _ (h.joined hn)
    · rw [joinNext_waits x k hf]
      exact suspend_joining_sound h hn hf hb

/-- `rest` is called, or returns at once (R126, R129). -/
theorem callRest_andThen_sound {k : List Frame} {s : State} {n : Nat} (h : s.Live k) (hn : nested .rest k = true)
    {ret : WireFrame → State → State} (hret : (ret 0#16 s).Sound) : ((callRest n k s).andThen ret).Sound := by
  rcases Nat.eq_zero_or_pos n with rfl | hp
  · exact hret
  · rw [callRest_pos k s hp]
    have hl : (s.writeSen false).Live k := h
    exact hl.suspend (decide_eq_true hp) hn (by simp [Point.callee])

/-- A RETURN FROM ANY OPERATION TO CALLERS THAT WAIT FOR IT LEAVES A SOUND STATE, however far it goes on in them. The
return of `readOSCCAL` finds the OSCCAL word valid. -/
theorem returnTo_sound (k : List Frame) : ∀ (c : Callee) (x : WireFrame) (s : State), s.Live k → nested c k = true →
    (c = .osccal → s.cache.osccalValid = true) → (returnTo k x s).Sound := by
  induction k with
  | nil => intro c x s h _ _; exact h.complete
  | cons f k ih =>
    intro c x s h hn ho
    obtain ⟨hw, hk⟩ := nested_cons.mp hn
    have hr : f.inRange = true := h.inRange f List.mem_cons_self
    cases f with
    | join => exact branchEnds_sound x h hk fun t ht => ih .verb x t ht hk (by simp)
    | sendFrame f =>
      exact callSendBits_sound f (h.pop (by simp)) (nested_sendBits_of_writing hk) (.inr rfl)
    | readFrame p =>
      exact callReadBits_sound ((h.pop (by simp)).push rfl (by simp) (by simp)) (nested_cons.mpr ⟨rfl, hk⟩)
    | checkFrame p =>
      rw [returnTo]
      rcases checkFrameNext_cases p x s with ⟨-, e⟩ | ⟨-, e⟩
      · exact e ▸ ih .reading _ s (h.pop (by simp)) hk (by simp)
      · exact e ▸ h.raise (by decide) _
    | timedRest n =>
      have hl : s.Live k := h.pop (by simp)
      exact callRest_andThen_sound hl (nested_rest_of_timed hk) (ih .timed 0#16 s hl hk (by simp))
    | resetAfterShutdown =>
      exact callStart_sound ((h.pop (by simp)).push rfl (by simp) (by simp)) (nested_cons.mpr ⟨rfl, hk⟩)
    | resetAfterStart => exact ih .reset 0#16 s (h.pop (by simp)) hk (by simp)
    | programAfterLoad d =>
      exact callBeginProgram_sound ((h.pop (by simp)).push hr (by simp) (by simp)) (nested_cons.mpr ⟨rfl, hk⟩)
    | programAfterBegin d =>
      exact callReadProgram_sound ((h.pop (by simp)).push hr (by simp) (by simp)) (nested_cons.mpr ⟨rfl, hk⟩)
    | programAfterRead d => exact programVerify_sound d _ (h.pop (by simp)) hk
    | programAfterIncrement d w => exact ih .program 0#16 s (h.pop (by simp)) hk (by simp)
    | osccalAfterReset => exact osccalLoop_sound (Nat.le_refl 1) (h.pop (by simp)) hk
    | osccalAfterIncrement i => exact osccalLoop_sound (Nat.le_add_left 1 i) (h.pop (by simp)) hk
    | osccalAfterRead =>
      rw [returnTo]
      rcases osccalStore_cases (x.setWidth 14) s with ⟨-, e⟩ | ⟨-, -, e⟩
      · exact e ▸ ih .osccal 0#16 _ ((h.pop (by simp)).setCache (cacheOk_osccal h.cacheOk _) fun _ => rfl) hk fun _ => rfl
      · exact e ▸ h.raise (by decide) _
    | idAfterReset =>
      exact callLoadConfig_sound 0#16 ((h.pop (by simp)).push rfl (by simp) (by simp)) (nested_cons.mpr ⟨rfl, hk⟩)
    | idAfterConfig => exact idReadLoop_sound 0 _ (h.pop (by simp)) hk
    | idAfterRead n v =>
      exact callIncrementAddress_sound ((h.pop (by simp)).push hr (by simp) (by simp)) (nested_cons.mpr ⟨rfl, hk⟩)
    | idAfterIncrement n v => exact idReadLoop_sound (n + 1) v (h.pop (by simp)) hk
    | idAfterSkip i v => exact idSkipLoop_sound v (Nat.le_add_left 1 i) (h.pop (by simp)) hk
    | idAfterBandgap v =>
      exact ih .identity 0#16 _ ((h.pop (by simp)).setCache (cacheOk_idStore h.cacheOk _) id) hk (by simp)
    | bulkAfterProgram =>
      exact callEraseData_sound ((h.pop (by simp)).push rfl (by simp) (by simp)) (nested_cons.mpr ⟨rfl, hk⟩)
    | bulkAfterData => exact ih .bulk 0#16 s (h.pop (by simp)) hk (by simp)
    | cleanAfterOsccal =>
      obtain rfl : c = .osccal := beq_iff_eq.mp hw
      exact callReadIdBandgap_sound ((h.pop (by simp)).push rfl (by simp) fun _ => ho rfl) (nested_cons.mpr ⟨rfl, hk⟩)
    | cleanAfterId =>
      exact callBulkEraseDevice_sound ((h.pop (by simp)).push rfl (by simp) (by simp)) (nested_cons.mpr ⟨rfl, hk⟩)
    | cleanAfterBulk => exact ih .clean 0#16 s (h.pop (by simp)) hk (by simp)
    | sessionAfterClean =>
      exact callShutdown_sound ((h.pop (by simp)).push rfl (by simp) (by simp)) (nested_cons.mpr ⟨rfl, hk⟩)
    | sessionAfterShutdown => exact ih .session 0#16 s (h.pop (by simp)) hk (by simp)
    | writeResult =>
      have hl : (s.setResult (x.setWidth 14)).Live k := h.pop (by simp)
      exact ih .request x _ hl hk (by simp)

/-! ### A suspended main process -/

/-- A sound state whose process is suspended outside a join: it is live, its locals in range, well nested. -/
theorem live_of_suspended {s : State} {p : Process} (h : s.Sound) (hm : s.main = some p)
    (hv : p.point.callee ≠ .verb) :
    s.Live p.callers ∧ p.point.inRange = true ∧ nested p.point.callee p.callers = true := by
  obtain ⟨hmain, hc, hd, he⟩ := h
  obtain ⟨hb, hp⟩ := (mainOk_some hm).mp hmain
  obtain ⟨-, hr, hk, hn, hl, -, ho⟩ := (processOk_iff _ _ _).mp hp
  refine ⟨⟨hb, ?_, ?_, hc, hk, by simpa [hv] using hl, ho⟩, hr, hn⟩
  · simpa [hb] using hd
  · simpa [hb] using he

/-- A sound state whose process stands at a join: its label process waits, and the verb's callers are live again as soon as
that process has ended (R70, R161). -/
theorem live_of_joining {s : State} {x : WireFrame} {k : List Frame} (h : s.Sound)
    (hm : s.main = some { point := .joining x, callers := k }) :
    s.labelProc.suspended = true ∧ (s.setLabelProc .idle).Live k ∧ nested .verb k = true := by
  obtain ⟨hmain, hc, hd, he⟩ := h
  obtain ⟨hb, hp⟩ := (mainOk_some hm).mp hmain
  obtain ⟨-, -, hk, hn, -, hs, ho⟩ := (processOk_iff _ _ _).mp hp
  refine ⟨hs rfl, ⟨hb, ?_, ?_, hc, hk, by simpa using join_notMem_of_nested (c := .verb) hn (by decide), ho⟩, hn⟩
  · simpa [hb] using hd
  · simpa [hb] using he

/-- The accumulator holds no sample that has not been taken (R123). -/
theorem setSample_inRange {r : WireFrame} {j : Nat} (b : Bool) (h : r >>> j = 0#16) :
    setSample r j b >>> (j + 1) = 0#16 := by
  apply BitVec.eq_of_getLsbD_eq
  intro i hi
  rw [BitVec.getLsbD_ushiftRight, BitVec.getLsbD_zero]
  rcases Nat.lt_or_ge (j + 1 + i) 16 with hlt | hge
  · have hr : (r >>> j).getLsbD (1 + i) = false := by rw [h, BitVec.getLsbD_zero]
    rw [BitVec.getLsbD_ushiftRight, ← Nat.add_assoc] at hr
    rw [setSample_getLsbD _ _ _ _ hlt, if_neg (by omega), hr]
  · exact BitVec.getLsbD_of_ge _ _ hge

/-- The loop of `rest` at an iteration of 1 or more (R126 to R128). -/
theorem restLoopFrom_sound {c i : Nat} {k : List Frame} {s : State} (hi : 1 ≤ i) (h : s.Live k)
    (hn : nested .rest k = true) : ((restLoopFrom c i k s).andThen (returnTo k)).Sound := by
  by_cases hw : i ≤ c - 1 ∧ s.ts = .rest
  · rw [restLoopFrom_waits k hw.1 hw.2]
    exact h.suspend (by simp [Point.inRange, hi, hw.1]) hn (by simp [Point.callee])
  · rw [restLoopFrom_ends k ((not_and_or.mp hw).imp_left Nat.lt_of_not_le)]
    have hl : (s.writeSen true).Live k := h
    exact returnTo_sound k .rest 0#16 _ hl hn (by simp)

/-- A released process that goes on from a wait outside a join leaves a sound state. -/
theorem goOn_sound {s : State} {p : Point} {k : List Frame} (h : s.Live k) (hr : p.inRange = true)
    (hn : nested p.callee k = true) (hv : p.callee ≠ .verb) : (p.goOn k s).Sound := by
  cases p with
  | dispatch => cases hr
  | transact w => cases hr
  | joining x => exact absurd rfl hv
  | sendBit v n j =>
    have hl : (s.writeData (v.getLsbD j)).Live k := h
    rw [Point.goOn]
    rcases Nat.lt_or_ge (j + 1) n with hj | hj
    · rw [sendBitEdge_more k s hj]
      simp only [Point.inRange, Bool.and_eq_true] at hr
      exact hl.suspend (by simp [Point.inRange, hj, hr.1]) hn (by simp [Point.callee])
    · rw [sendBitEdge_last k s hj]
      exact returnTo_sound k .sendBits 0#16 _ hl hn (by simp)
  | readBit n j r =>
    have hl : (s.writeData s.lineIn).Live k := h
    rw [Point.goOn]
    rcases Nat.lt_or_ge (j + 1) n with hj | hj
    · rw [readBitEdge_more r k s hj]
      simp only [Point.inRange, Bool.and_eq_true, beq_iff_eq] at hr
      obtain ⟨⟨rfl, -⟩, hr0⟩ := hr
      exact hl.suspend (by simp [Point.inRange, hj, setSample_inRange s.lineIn hr0]) hn (by simp [Point.callee])
    · rw [readBitEdge_last r k s hj]
      exact returnTo_sound k .readBits _ _ hl hn (by simp)
  | restFirst c =>
    have hl : ((s.setTs .rest).writeData false).Live k := h
    exact restLoopFrom_sound (Nat.le_refl 1) hl hn
  | restLoop c i => exact restLoopFrom_sound (Nat.le_add_left 1 i) h hn
  | startPm =>
    have hl : (((s.writePm true).setTs .rest).setLabel .none).Live k := h
    exact hl.suspend rfl hn (by simp [Point.callee])
  | startPwr =>
    have hl : (s.writePwr true).Live k := h
    exact hl.suspend rfl hn (by simp [Point.callee])
  | startSen =>
    have hl : (startSenEdge s).Live k := h
    exact returnTo_sound k .start 0#16 _ hl hn (by simp)
  | shutdownData =>
    have hl : ((((s.setTs .rest).setLabel .none).writeData false).writeSen false).Live k := h
    exact hl.suspend rfl hn (by simp [Point.callee])
  | shutdownPm =>
    have hl : (s.writePm false).Live k := h
    exact hl.suspend rfl hn (by simp [Point.callee])
  | shutdownPwr =>
    have hl : (s.writePwr false).Live k := h
    exact hl.suspend rfl hn (by simp [Point.callee])
  | shutdownEnd =>
    have hl : (shutdownEndEdge s).Live k := h
    exact returnTo_sound k .shutdown 0#16 _ hl hn (by simp)

/-- An instant of a suspended main process leaves a sound state; one at its join stays there (R67). -/
theorem resume_sound {s : State} {p : Process} (e : Events) (h : s.Sound) (hm : s.main = some p) :
    (resume e p s).Sound := by
  unfold resume
  split
  · rename_i hrel
    by_cases hv : p.point.callee = .verb
    · obtain ⟨pt, k⟩ := p
      obtain ⟨x, rfl⟩ := exists_joining_of_callee hv
      obtain ⟨hs, -, -⟩ := live_of_joining h hm
      exact absurd (beq_iff_eq.mp hrel) ((suspended_iff _).mp hs).2
    · obtain ⟨hl, hr, hn⟩ := live_of_suspended h hm hv
      exact goOn_sound hl hr hn hv
  · exact h

/-! ### The label process (R70, R161) -/

@[simp] theorem runLabel_main (e : Events) (s : State) : (s.runLabel e).main = s.main := by
  unfold State.runLabel
  cases s.labelProc with
  | waiting v => dsimp only; split <;> rfl
  | idle => rfl
  | finished => rfl

/-- Outside a join it makes no difference to soundness whether the label has been published. -/
theorem runLabel_sound {s : State} (e : Events) (h : s.Sound)
    (hv : ∀ p, s.main = some p → p.point.callee ≠ .verb) : (s.runLabel e).Sound := by
  cases hl : s.labelProc.suspended with
  | false => rwa [runLabel_of_not_waiting hl]
  | true =>
    obtain ⟨v, hw⟩ := exists_waiting_of_suspended hl
    rw [runLabel_waiting hw]
    split
    · obtain ⟨hmain, hrest⟩ := h
      refine ⟨?_, hrest⟩
      cases hm : s.main with
      | none =>
        obtain ⟨-, hi⟩ := (mainOk_none hm).mp hmain
        rw [hw] at hi
        cases hi
      | some p =>
        obtain ⟨hb, hp⟩ := (mainOk_some hm).mp hmain
        obtain ⟨h1, h2, h3, h4, h5, -, h7⟩ := (processOk_iff _ _ _).mp hp
        have hf : processOk p .finished s.cache = true :=
          (processOk_iff _ _ _).mpr
            ⟨h1, h2, h3, h4, h5.trans (by simp [hw]), fun e => absurd e (hv p hm), h7⟩
        exact (mainOk_some rfl).mpr ⟨hb, hf⟩
    · exact h

/-- Where the main process is at a join, the join is tried again once the label process has run (R70). -/
theorem joining_after_runLabel_sound {s : State} {x : WireFrame} {k : List Frame} (e : Events) (h : s.Sound)
    (hm : s.main = some { point := .joining x, callers := k }) :
    (if (s.runLabel e).labelProc == .finished then (joinNext x k (s.runLabel e)).andThen (returnTo k)
      else s.runLabel e).Sound := by
  obtain ⟨hs, hl, hn⟩ := live_of_joining h hm
  obtain ⟨v, hw⟩ := exists_waiting_of_suspended hs
  rw [runLabel_waiting hw]
  cases e.clkRise with
  | true => exact returnTo_sound k .verb x _ hl hn (by simp)
  | false => simpa [hw] using h

/-- The label process and then the join, after the main process has run (R68, R70). -/
theorem resumeJoin_runLabel_sound {s : State} (e : Events) (h : s.Sound) : (s.runLabel e).resumeJoin.Sound := by
  unfold State.resumeJoin
  split
  · rename_i x k hm
    exact joining_after_runLabel_sound e h ((runLabel_main e s).symm.trans hm)
  · rename_i hj
    refine runLabel_sound e h fun p hp hv => ?_
    obtain ⟨pt, k⟩ := p
    obtain ⟨x, rfl⟩ := exists_joining_of_callee hv
    exact hj x k ((runLabel_main e s).trans hp)

theorem labelAfterMain_sound {s : State} (e : Events) (before : State) (h : s.Sound) :
    (labelAfterMain e before s).Sound := by
  unfold labelAfterMain
  split
  · exact h
  · exact h
  · split
    · rw [publishAtFault_eq]
      exact h
    · exact resumeJoin_runLabel_sound e h

/-- Step 7 of an instant with a suspended main process, in either order of the processes (R68). -/
theorem processed_sound {s : State} {p : Process} (e : Events) (i : Input) (h : s.Sound) (hm : s.main = some p) :
    (processed e i p s).Sound := by
  unfold processed
  split
  · exact labelAfterMain_sound e s (resume_sound e h hm)
  · by_cases hv : p.point.callee = .verb
    · obtain ⟨pt, k⟩ := p
      obtain ⟨x, rfl⟩ := exists_joining_of_callee hv
      exact joining_after_runLabel_sound e h hm
    · refine resume_sound e (runLabel_sound e h fun q hq => ?_) ((runLabel_main e s).trans hm)
      rw [hm] at hq
      cases hq
      exact hv

/-! ### The dispatch of an instruction (R106, R222) -/

/-- A request word that decodes is well formed: no wire command code is the meaning of a request (R106, R107). -/
theorem wellFormed_of_decodeRequest {q : RequestWord} {i : Instr} (h : decodeRequest q = .ok i) :
    i.wellFormed = true := by
  unfold decodeRequest at h
  split at h
  · cases h
  · unfold decodeOp at h
    split at h <;> cases h <;> rfl

/-- The call of a well-formed instruction, with nothing waiting for its return, leaves a sound state. -/
theorem exec_sound {i : Instr} {s t : State} (hi : i.wellFormed = true) (hs : s.Live []) (hk : s.callers = [])
    (he : exec i s = .next t) : t.Sound := by
  have h : s.Live s.callers := hk ▸ hs
  have hr : s.Live (.writeResult :: s.callers) := h.push rfl (by simp) (by simp)
  have hn : ∀ c, nested c s.callers = true := fun c => hk ▸ rfl
  cases i <;> cases he
  case start => exact callStart_sound h (hn _)
  case shutdown => exact callShutdown_sound h (hn _)
  case reset => exact callReset_sound h (hn _)
  case programCycle d => exact callProgramCycle_sound d h (hn _)
  case readOsccal => exact callReadOsccal_sound h (hn _)
  case readIdBandgap => exact callReadIdBandgap_sound h (hn _)
  case bulkEraseDevice => exact callBulkEraseDevice_sound h (hn _)
  case cleanDevice => exact callReadOsccal_sound (h.push rfl (by simp) (by simp)) (nested_cons.mpr ⟨rfl, hn _⟩)
  case session =>
    have hc : (s.setCache IdentityCache.empty).Live s.callers :=
      { h with cacheOk := rfl, osccal := by simp [hk] }
    exact callReadOsccal_sound ((hc.push (f := .sessionAfterClean) rfl (by simp) (by simp)).push rfl (by simp) (by simp))
      (nested_cons.mpr ⟨rfl, nested_cons.mpr ⟨rfl, hn _⟩⟩)
  case loadConfig d => exact callLoadConfig_sound d h (hn _)
  case loadProgram d => exact callLoadProgram_sound d h (hn _)
  case loadData d => exact callLoadData_sound d h (hn _)
  case incrementAddress => exact callIncrementAddress_sound h (hn _)
  case endProgramming => exact callEndProgramming_sound h (hn _)
  case readProgram => exact callReadProgram_sound hr (nested_cons.mpr ⟨rfl, hn _⟩)
  case readData => exact callReadData_sound hr (nested_cons.mpr ⟨rfl, hn _⟩)
  case beginProgram => exact callBeginProgram_sound h (hn _)
  case eraseProgram => exact callEraseProgram_sound h (hn _)
  case eraseData => exact callEraseData_sound h (hn _)
  case sendCmd c => exact callSendCommand_sound c h (hn _)
  case sendCmdData c d => exact callSendCommandAndData_sound c d h (hn _)
  case sendCmdByte c d => exact callSendCommandAndByteData_sound c d h (hn _)
  case sendCmdRead c => exact callSendCommandAndReadData_sound c hr (nested_cons.mpr ⟨rfl, hn _⟩)
  case sendCmdReadByte c => exact callSendCommandAndReadByteData_sound c hr (nested_cons.mpr ⟨rfl, hn _⟩)
  case rest n => exact callRest_andThen_sound h (hn _) (returnTo_sound _ .rest 0#16 s h (hn _) (by simp))
  case wireLoadConfiguration x f => exact transaction_sound _ h (hn _) hi rfl (by simp) (by simp)
  case wireLoadDataForProgramMemory x f => exact transaction_sound _ h (hn _) hi rfl (by simp) (by simp)
  case wireLoadDataForDataMemory x f =>
    have hf : wordFrameOk f = true := (Bool.and_eq_true_iff.mp hi).1
    exact transaction_sound _ h (hn _) hf rfl (by simp) (by simp)
  case wireIncrementAddress x => exact callSendBits_sound _ h (hn _) (.inl rfl)
  case wireEndProgramming => exact callSendBits_sound _ h (hn _) (.inl rfl)
  case wireBeginProgrammingExternallyTimed => exact callSendBits_sound _ h (hn _) (.inl rfl)
  all_goals exact transaction_sound _ h (hn _) rfl rfl (by simp) (by simp)

/-! ### The instant (R65) -/

/-- A request accepted at this instant, or none: what step 7 finds (R221). -/
theorem accept_sound {s : State} (e : Events) (i : Input) (h : s.Sound) :
    (s.accept e i).Sound ∨
      ((s.accept e i).Live [] ∧ (s.accept e i).main = some { point := .dispatch, callers := [] }) := by
  rcases accept_cases e i s with ⟨-, ha⟩ | ⟨hidle, -, ha⟩ | ⟨hidle, -, ha⟩
  · exact .inl (ha.symm ▸ h)
  · exact .inl (ha ▸ ⟨rfl, h.2.1, by simp, by simp⟩)
  · obtain ⟨hmain, hc, -, he⟩ := h
    have hI : s.engine = .idle := by simp_all [acceptable]
    have hl : s.labelProc = .idle := by
      cases hm : s.main with
      | none => exact ((mainOk_none hm).mp hmain).2
      | some p => exact absurd (((mainOk_some hm).mp hmain).1.symm.trans hI) (by decide)
    have he' : s.errCode = .none := by simpa [hI] using he
    exact .inr (ha ▸ ⟨⟨rfl, rfl, he', hc, by simp, by simp [hl], by simp⟩, rfl⟩)

/-- Step 7 for a request that has just been accepted (R221, R222). -/
theorem runProcesses_dispatch_sound {s t : State} (e : Events) (i : Input) (h : s.Live [])
    (hm : s.main = some { point := .dispatch, callers := [] }) (hr : runProcesses e i s = .next t) : t.Sound := by
  have hl : s.labelProc = .idle := by simpa using h.label
  have hrun : runProcesses e i s = runMain e s := by
    unfold runProcesses
    rw [runLabel_of_not_waiting (by rw [hl]; rfl)]
    split
    · cases runMain e s with
      | next u => exact congrArg _ (labelAfterMain_of_not_waiting (by rw [hl]; rfl))
      | fault r => rfl
      | refused r => rfl
    · rfl
  rw [hrun, runMain, hm] at hr
  dsimp only at hr
  split at hr
  · rename_i j hd
    exact exec_sound (wellFormed_of_decodeRequest hd) h (by rw [State.callers, hm]) hr
  · cases hr
    exact h.raise (by decide) _

/-- Step 7 of an instant with a suspended main process answers what `processed` says. -/
theorem runProcesses_suspended {s : State} {p : Process} (e : Events) (i : Input) (hm : s.main = some p)
    (hc : p.point.callee ≠ .request) : runProcesses e i s = .next (processed e i p s) := by
  have hrun : ∀ t : State, t.main = some p → runMain e t = .next (resume e p t) := by
    intro t ht
    obtain ⟨pt, k⟩ := p
    unfold runMain
    rw [ht]
    cases pt <;> first | rfl | exact absurd rfl hc
  unfold runProcesses processed
  rw [hrun s hm, hrun _ ((runLabel_main e s).trans hm)]
  split <;> rfl

/-- No process that is about to make a call outlives the instant. -/
theorem callee_ne_request_of_inRange {p : Point} (h : p.inRange = true) : p.callee ≠ .request := by
  cases p <;> simp_all [Point.inRange, Point.callee]

/-- Step 7 in a sound state: the main process, if there is one, is suspended. -/
theorem runProcesses_sound {s t : State} (e : Events) (i : Input) (h : s.Sound) (hr : runProcesses e i s = .next t) :
    t.Sound := by
  cases hm : s.main with
  | none =>
    rw [runProcesses_none hm ((mainOk_none hm).mp h.1).2] at hr
    cases hr
    exact h
  | some p =>
    obtain ⟨-, hp⟩ := (mainOk_some hm).mp h.1
    obtain ⟨-, hin, -⟩ := (processOk_iff _ _ _).mp hp
    rw [runProcesses_suspended e i hm (callee_ne_request_of_inRange hin)] at hr
    cases hr
    exact processed_sound e i h hm

/-- Steps 2 to 5 of an instant change nothing that soundness depends on. -/
theorem sound_before_accept {s : State} (i : Input) (h : s.Sound) :
    ((((s.commit).setLevels i).gate (levelEvents s i)).force i).Sound := by
  simpa [State.Sound, mainOk] using h

/-- The gate never stands open over a low raw strobe (R33, R61). -/
theorem rawStb_of_gateOpen_before {s : State} (i : Input) (h : s.gateOpen = true → s.rawStb = true)
    (hg : (beforeProcesses i s).gateOpen = true) : (beforeProcesses i s).rawStb = true := by
  have hacc : ∀ t : State, (t.accept (instantEvents i s) i).gateOpen = t.gateOpen ∧
      (t.accept (instantEvents i s) i).rawStb = t.rawStb := by
    intro t
    rcases accept_cases (instantEvents i s) i t with ⟨-, e⟩ | ⟨-, -, e⟩ | ⟨-, -, e⟩
    · rw [e]; exact ⟨rfl, rfl⟩
    · rw [e]; exact ⟨rfl, rfl⟩
    · rw [e]; exact ⟨rfl, rfl⟩
  unfold beforeProcesses at hg ⊢
  rw [(hacc _).1, State.force_gateOpen] at hg
  rw [(hacc _).2, State.force_rawStb]
  show rawLevel s.params i = true
  cases hl : rawLevel s.params i with
  | true => rfl
  | false => cases ho : s.gateOpen <;> simp_all [State.gate, gateRise, gateFall, levelEvents]

/-- Steps 2 to 8 of an instant keep the invariant. -/
theorem invariant_notify_runProcesses {s u : State} (i : Input) (h : invariant s = true)
    (hr : runProcesses (instantEvents i s) i (beforeProcesses i s) = .next u) : invariant u.notify = true := by
  obtain ⟨hs, -, hgate⟩ := (invariant_iff s).mp h
  have hu : u.Sound := by
    rcases accept_sound (instantEvents i s) i (sound_before_accept i hs) with ha | ⟨hl, hm⟩
    · exact runProcesses_sound _ i ha hr
    · exact runProcesses_dispatch_sound _ i hl hm hr
  have hbus : BusKept (beforeProcesses i s) u := by
    rcases runProcesses_busKept (instantEvents i s) i (beforeProcesses i s) with ⟨t, ht, hb⟩ | hf
    · rw [hr] at ht
      cases ht
      exact hb
    · rw [hr] at hf
      cases hf
  refine (invariant_iff _).mpr ⟨hu, rfl, fun hg => ?_⟩
  rw [State.notify_gateOpen, hbus.gateOpen] at hg
  rw [State.notify_rawStb, hbus.rawStb]
  exact rawStb_of_gateOpen_before i hgate hg

/-- Block reset leaves a state that meets the invariant, whatever came before (R280). -/
theorem invariant_blockReset (i : Input) (s : State) : invariant (s.blockReset.setLevels i) = true :=
  (invariant_iff _).mpr ⟨⟨rfl, rfl, by simp, by simp⟩, by simp [State.composite, Line.reset], by simp⟩

/-- Settles O57: each of the three things a step can do keeps the invariant; in an edge instant a return to callers that
wait for it restores it (`returnTo_sound`), in either order of the processes. -/
theorem invariantKept : Obligations.InvariantKept := by
  unfold Obligations.InvariantKept
  intro s t h hstep
  have hc : invariant s.consume = true := h
  rcases step_cases hstep with ⟨-, rfl⟩ | ⟨-, -, rfl⟩ | ⟨-, -, u, hr, rfl⟩
  · exact hc
  · exact invariant_blockReset _ _
  · exact invariant_notify_runProcesses _ hc hr

end Sys2Proof.Machine
end

section
/-! Runs under the LOCKED schedule in parts: a run over joined inputs, the ticks of a verb, the ticks of `reset`. -/

namespace Sys2Proof.Machine

/-! ### Joined inputs -/

/-- The level of the clock after `n` ticks from the level `c` (R62). -/
def levelAfter (c : Bool) (n : Nat) : Bool := c ^^ (n % 2 == 1)

theorem lockedFrom_append (c : Bool) (is js : List Input) :
    lockedFrom c (is ++ js) = (lockedFrom c is && lockedFrom (levelAfter c is.length) js) := by
  induction is generalizing c with
  | nil => simp [lockedFrom, levelAfter]
  | cons i is ih =>
    have hl : levelAfter (!c) is.length = levelAfter c (is.length + 1) := by
      rcases Nat.mod_two_eq_zero_or_one is.length with h | h <;> cases c <;> simp [levelAfter, h, Nat.add_mod]
    simp only [List.cons_append, lockedFrom, ih, hl, List.length_cons, Bool.and_assoc]

/-- The first `n` inputs of a LOCKED run and the rest, each LOCKED from the level it begins at. -/
theorem lockedFrom_split {c : Bool} {is : List Input} {n m : Nat} (hL : lockedFrom c is = true)
    (hlen : is.length = n + m) :
    ∃ as bs, is = as ++ bs ∧ as.length = n ∧ bs.length = m ∧ lockedFrom c as = true ∧
      lockedFrom (levelAfter c n) bs = true := by
  have hn : (is.take n).length = n := by rw [List.length_take]; omega
  rw [← List.take_append_drop n is, lockedFrom_append, Bool.and_eq_true, hn] at hL
  exact ⟨is.take n, is.drop n, (List.take_append_drop n is).symm, hn, by rw [List.length_drop]; omega, hL.1, hL.2⟩

theorem runOn_append_next {is : List Input} {s t : State} (h : runOn is s = .next t) (js : List Input) :
    runOn (is ++ js) s = runOn js t := by
  rw [runOn_append, h]

/-- What the first inputs write does not depend on the inputs after them. -/
theorem sendsBits_append_left {is : List Input} {s : State} {v : WireFrame} {n first : Nat}
    (h : sendsBits is s v n first) (hlen : first + 2 * n ≤ is.length + 2) (js : List Input) :
    sendsBits (is ++ js) s v n first := by
  intro k hk
  rw [List.take_append_of_le_length (by omega)]
  exact h k hk

/-- What is written after a run is written by the longer run, counted from its beginning. -/
theorem sendsBits_append_right {is js : List Input} {s t : State} {v : WireFrame} {n first : Nat}
    (hr : runOn is s = .next t) (h : sendsBits js t v n first) : sendsBits (is ++ js) s v n (is.length + first) := by
  intro k hk
  rw [Nat.add_assoc, List.take_length_add_append]
  obtain ⟨u, hu, hd⟩ := h k hk
  exact ⟨u, (runOn_append_next hr _).trans hu, hd⟩

theorem answers_append_right {is js : List Input} {first : Nat} {f : WireFrame}
    (h : answers (is ++ js) (is.length + first) f) : answers js first f := by
  intro k hk
  have := h k hk
  rwa [List.getElem?_append_right (by omega), show is.length + first + 2 * k - is.length = first + 2 * k by omega] at this

@[simp] theorem Line.settled_commit (l : Line) : l.commit.settled = l.settled := by
  rw [Line.commit_settled]
  rfl

/-! ### A code and a read frame (R121, R124) -/

/-- The six bits of a code, from a tick of level `h`: the sender's callers go on with the last of them, the label has been
published, and the bits have gone onto the data line if the callers write no other bit at once. -/
theorem run_code {h : Bool} (v : WireFrame) (c : List Frame) {s : State} {is : List Input} (hs : s.levels h)
    (hg : h = false → s.gateOpen = false) (hsen : s.sen.settled = true) (hb : s.engine = .busy)
    (hL : lockedFrom h is = true) (hlen : is.length = 11 + h.toNat) :
    ∃ (b : Bus) (d : Bool) (w : State), b.hi = true ∧ b.gate = true ∧
      w = ((s.published.later b).withData { cur := d, pend := some (v.getLsbD 5) }).setTs .tx ∧
      runOn is (callSendBits v 6 c s).notify = .next (returnTo c 0#16 w).notify ∧
      ((returnTo c 0#16 w).data = w.data → sendsBits is (callSendBits v 6 c s).notify v 6 (1 + h.toNat)) := by
  obtain ⟨b, d, hb1, hb2, hrun, hbits⟩ : ∃ (b : Bus) (d : Bool), b.hi = true ∧ b.gate = true ∧
      runOn is (callSendBits v 6 c s).notify =
        .next (returnTo c 0#16 (((callSendBits v 6 c s).notify.published.later b).withData
          { cur := d, pend := some (v.getLsbD 5) })).notify ∧
      ∀ j, j < 5 → writesBit (is.take (1 + h.toNat + 2 * j)) (callSendBits v 6 c s).notify (v.getLsbD j) := by
    cases h with
    | true =>
      obtain ⟨⟨b, d, h1, h2, h3⟩, h4⟩ := run_sendBits_high (s := (callSendBits v 6 c s).notify) (n := 6) (m := 5) (k := 0)
        (v := v) (c := c) rfl hs hsen hb rfl (by simp) hL hlen
      exact ⟨b, d, h1, h2, h3, fun j hj => h4 j (Nat.zero_le j) (by omega)⟩
    | false =>
      obtain ⟨⟨b, d, h1, h2, h3⟩, h4⟩ := run_sendBits_low v 6 c 5 0 (callSendBits v 6 c s).notify is rfl hs (hg rfl) hsen
        hb rfl (by simp) hL hlen
      exact ⟨b, d, h1, h2, h3, fun j hj => h4 j (Nat.zero_le j) (by omega)⟩
  have hrun' := hrun.trans (congrArg (fun t => Host.Outcome.next t.notify) (returnTo_suspend c 0#16
    (((s.published.later b).withData { cur := d, pend := some (v.getLsbD 5) }).setTs .tx) (.sendBit v 6 0) c))
  refine ⟨b, d, _, hb1, hb2, rfl, hrun', fun hdata j hj => ?_⟩
  rcases Nat.lt_or_ge j 5 with h5 | h5
  · exact hbits j h5
  · obtain rfl : j = 5 := by omega
    rw [List.take_of_length_le (by omega)]
    exact ⟨_, hrun', by rw [State.notify_data, hdata]; rfl⟩

/-- The sixteen samples of a read, from a high tick with a pulse open: the reader's callers go on with the target's
answer. -/
theorem run_readFrame {f : WireFrame} (c : List Frame) {s : State} {is : List Input} (hs : s.levels true)
    (hg : s.gateOpen = true) (hsen : s.sen.settled = true) (hb : s.engine = .busy)
    (hl : s.labelProc.suspended = false) (ha : answers is 0 f) (hL : lockedFrom true is = true)
    (hlen : is.length = 31) :
    ∃ (b : Bus) (d : Bool), b.hi = false ∧ b.gate = false ∧
      runOn is (callReadBits 16 c s).notify =
        .next (returnTo c f
          (((s.later b).withData { cur := d, pend := some (f.getLsbD 15) }).setTs .rx)).notify := by
  obtain ⟨b, d, h1, h2, h3⟩ := run_readBits f c 15 0 0#16 (callReadBits 16 c s).notify is rfl hs hg hsen hb rfl hl
    (by simp) (fun j _ hj => by simpa using ha j hj) hL hlen
  exact ⟨b, d, h1, h2, h3.trans (congrArg (fun t => Host.Outcome.next t.notify)
    (returnTo_suspend c f
      (((s.later b).withData { cur := d, pend := some (f.getLsbD 15) }).setTs .rx) (.readBit 16 0 0#16) c))⟩

/-! ### Verbs (R161) -/

/-- The engine stands between two operations of a request, at a tick of level `h`: Busy, the strobe enabled, no label
process, and no pulse open at a low tick. -/
structure State.Ready (h : Bool) (s : State) : Prop where
  levels : s.levels h
  gate : h = false → s.gateOpen = false
  sen : s.sen.settled = true
  busy : s.engine = .busy
  idle : s.labelProc = .idle

/-- What a verb with the label `l` makes of `s`: the writes pending on `pm`, `pwr` and `sen` are committed, `ts` and `label`
are the verb's, and the other registers are those of `s`. -/
structure Transferred (ts : TransportState) (l : CommandLabel) (s w : State) : Prop where
  pm : w.pm = s.pm.commit
  pwr : w.pwr = s.pwr.commit
  sen : w.sen = s.sen.commit
  ts : w.ts = ts
  label : w.label = l
  seq : w.seq = s.seq
  done : w.done = s.done
  registers : keepsRegisters s w

theorem keepsRegisters_trans {s t u : State} (h : keepsRegisters s t) (g : keepsRegisters t u) : keepsRegisters s u := by
  obtain ⟨h1, h2, h3, h4, h5, h6⟩ := h
  obtain ⟨g1, g2, g3, g4, g5, g6⟩ := g
  exact ⟨g1.trans h1, g2.trans h2, g3.trans h3, g4.trans h4, g5.trans h5, g6.trans h6⟩

/-- Of two verbs one after the other, `ts` and `label` are the second's. -/
theorem Transferred.trans {ts ts' : TransportState} {l l' : CommandLabel} {s t u : State} (h : Transferred ts l s t)
    (g : Transferred ts' l' t u) : Transferred ts' l' s u where
  pm := by rw [g.pm, h.pm, Line.commit_commit]
  pwr := by rw [g.pwr, h.pwr, Line.commit_commit]
  sen := by rw [g.sen, h.sen, Line.commit_commit]
  ts := g.ts
  label := g.label
  seq := g.seq.trans h.seq
  done := g.done.trans h.done
  registers := keepsRegisters_trans h.registers g.registers

/-- A verb returns through its join once its label has been published, except with a wrong word to `programCycle` (R70,
R161, R193). -/
theorem returnTo_join {k : List Frame} {x : WireFrame} {s : State} (hf : s.labelProc = .finished)
    (hk : ∀ d c, k = .programAfterRead d :: c → (x.setWidth 14).toNat = d.toNat) :
    returnTo (.join :: k) x s = returnTo k x (s.setLabelProc .idle) := by
  rw [returnTo]
  rcases branchEnds_cases x k s with ⟨d, c, hc, hd, -⟩ | ⟨-, e⟩
  · exact absurd (hk d c hc) hd
  · rw [e, joinNext_finished x k hf]
    rfl

/-- A well-framed answer goes through the framing check (R104, R143). -/
theorem returnTo_checkFrame {p : Payload} {k : List Frame} {f : WireFrame} (s : State) (hf : wellFramed f) :
    returnTo (.checkFrame p :: k) f s = returnTo k (payloadOf p f) s := by
  rw [returnTo]
  rcases checkFrameNext_cases p f s with ⟨-, e⟩ | ⟨hb, -⟩
  · rw [e]
    rfl
  · exact absurd hf hb

/-- A verb that is its code alone, from a tick of level `h`: it returns `11` ticks later from a low tick, `12` from a high
one. -/
theorem run_codeVerb {h : Bool} (v : WireFrame) (l : CommandLabel) {k : List Frame} {s : State} {is : List Input}
    (hs : s.Ready h) (hk : ∀ d c, k ≠ .programAfterRead d :: c) (hL : lockedFrom h is = true)
    (hlen : is.length = 11 + h.toNat) :
    ∃ w : State, w.Ready true ∧ Transferred .tx l s w ∧
      runOn is (callSendBits v 6 (.join :: k) (s.setLabelProc (.waiting l))).notify =
        .next (returnTo k 0#16 w).notify ∧
      ((returnTo k 0#16 w).data = w.data →
        sendsBits is (callSendBits v 6 (.join :: k) (s.setLabelProc (.waiting l))).notify v 6 (1 + h.toNat)) := by
  obtain ⟨b, d, w, hb, hg, hw, hrun, hbits⟩ := run_code (s := s.setLabelProc (.waiting l)) v (.join :: k) hs.levels hs.gate
    hs.sen hs.busy hL hlen
  have hret : returnTo (.join :: k) 0#16 w = returnTo k 0#16 (w.setLabelProc .idle) :=
    returnTo_join (by rw [hw]; rfl) fun d c e => absurd e (hk d c)
  rw [hret] at hrun hbits
  refine ⟨w.setLabelProc .idle, ?_, ?_, hrun, hbits⟩
  · rw [hw]
    exact ⟨⟨hb, hb⟩, nofun, (Line.settled_commit _).trans hs.sen, hs.busy, rfl⟩
  · rw [hw]
    exact ⟨rfl, rfl, rfl, rfl, rfl, rfl, rfl, ⟨rfl, rfl, rfl, rfl, rfl, rfl⟩⟩

/-- A verb that reads a frame, from a tick of level `h`, up to the framing check of the answer: the low tick of the
sixteenth sample. -/
theorem run_readVerb {h : Bool} (v : WireFrame) (p : Payload) (l : CommandLabel) {f : WireFrame} (k : List Frame)
    {s : State} {is : List Input} (hs : s.Ready h) (ha : answers is (11 + h.toNat) f) (hL : lockedFrom h is = true)
    (hlen : is.length = 42 + h.toNat) :
    ∃ w : State, w.labelProc = .finished ∧ (w.setLabelProc .idle).Ready false ∧ Transferred .rx l s w ∧
      runOn is (callSendBits v 6 (.readFrame p :: .join :: k) (s.setLabelProc (.waiting l))).notify =
        .next (returnTo (.checkFrame p :: .join :: k) f w).notify ∧
      sendsBits is (callSendBits v 6 (.readFrame p :: .join :: k) (s.setLabelProc (.waiting l))).notify v 6
        (1 + h.toNat) := by
  obtain ⟨as, bs, rfl, hlenA, hlenB, hLa, hLb⟩ := lockedFrom_split (n := 11 + h.toNat) (m := 31) hL (by omega)
  have hhigh : levelAfter h (11 + h.toNat) = true := by cases h <;> rfl
  rw [hhigh] at hLb
  obtain ⟨b, d, w, hb, hg, hw, hcode, hbits⟩ := run_code (s := s.setLabelProc (.waiting l)) v (.readFrame p :: .join :: k)
    hs.levels hs.gate hs.sen hs.busy hLa hlenA
  have hsen : (s.sen.commit).settled = true := (Line.settled_commit _).trans hs.sen
  have hans : answers bs 0 f := answers_append_right (is := as) (by rwa [hlenA])
  obtain ⟨b', d', hb', hg', hread⟩ := run_readFrame (.checkFrame p :: .join :: k) (s := w) (by rw [hw]; exact ⟨hb, hb⟩)
    (by rw [hw]; exact hg) (by rw [hw]; exact hsen) (by rw [hw]; exact hs.busy) (by rw [hw]; rfl) hans hLb hlenB
  refine ⟨_, ?_, ?_, ?_, (runOn_append_next hcode bs).trans hread, sendsBits_append_left (hbits rfl) ?_ bs⟩
  · rw [hw]; rfl
  · rw [hw]
    exact ⟨⟨hb', hb'⟩, fun _ => hg', (Line.settled_commit _).trans hsen, hs.busy, rfl⟩
  · rw [hw]
    exact ⟨Line.commit_commit _, Line.commit_commit _, Line.commit_commit _, rfl, rfl, rfl, rfl,
      ⟨rfl, rfl, rfl, rfl, rfl, rfl⟩⟩
  · omega

/-! ### Reset (R192) -/

/-- What `reset` makes of `s`: the target powered, `sen` to rise with the next commit, the label cleared (R190 to R192). -/
structure Restarted (s w : State) : Prop where
  pm : w.pm = { cur := true, pend := none }
  pwr : w.pwr = { cur := true, pend := none }
  sen : w.sen = { cur := false, pend := some true }
  seq : w.seq = .running
  done : w.done = s.done
  registers : keepsRegisters s w

/-- `reset` from a high tick: it returns 14 ticks later. -/
theorem run_reset {k : List Frame} {s : State} {is : List Input} (hs : s.levels true) (hb : s.engine = .busy)
    (hl : s.labelProc = .idle) (hL : lockedFrom true is = true) (hlen : is.length = 14) :
    ∃ w : State, w.Ready true ∧ Restarted s w ∧ runOn is (callReset k s).notify = .next (returnTo k 0#16 w).notify := by
  obtain ⟨as, bs, rfl, hlenA, hlenB, hLa, hLb⟩ := lockedFrom_split (n := 8) (m := 6) hL hlen
  obtain ⟨b, hb1, -, hdown⟩ := run_shutdown_high (s := (callReset k s).notify) (c := .resetAfterShutdown :: k) hs hb rfl
    (by show s.labelProc.suspended = false; rw [hl]; rfl) hLa hlenA
  obtain ⟨b', hb1', -, hup⟩ := run_start_high (c := .resetAfterStart :: k)
    (s := (returnTo (.resetAfterShutdown :: k) 0#16 (((callReset k s).notify).later b).shutDown).notify) ⟨hb1, hb1⟩ rfl rfl
    hb rfl (by show s.labelProc.suspended = false; rw [hl]; rfl) hLb hlenB
  refine ⟨_, ?_, ?_, (runOn_append_next hdown bs).trans hup⟩
  · exact ⟨⟨hb1', hb1'⟩, nofun, rfl, hb, hl⟩
  · exact ⟨rfl, rfl, rfl, rfl, rfl, ⟨rfl, rfl, rfl, rfl, rfl, rfl⟩⟩

/-! ### READ_OSCCAL (R196) -/

/-- The word of a read frame as the engine takes it, in numbers (R104). -/
theorem setWidth_payloadOf_word (f : WireFrame) : (payloadOf .word f).setWidth 14 = wordOf f := by
  apply BitVec.eq_of_toNat_eq
  simp [payloadOf, frameWord, wordOf, Nat.shiftRight_eq_div_pow]

/-- The three IncrementAddress verbs of `readOSCCAL`, from a high tick: 36 ticks, then the read. -/
theorem run_osccalIncrements {k : List Frame} {s : State} {is : List Input} (hs : s.Ready true)
    (hL : lockedFrom true is = true) (hlen : is.length = 36) :
    ∃ w : State, w.Ready true ∧ Transferred .tx .incrementAddress s w ∧
      runOn is (osccalLoop 1 k s).notify = .next (callReadProgram (.osccalAfterRead :: k) w).notify ∧
      sendsCodes is (osccalLoop 1 k s).notify [(0x06, 2), (0x06, 14), (0x06, 26)] := by
  obtain ⟨as, is', rfl, hlenA, hlen', hLa, hL'⟩ := lockedFrom_split (n := 12) (m := 24) hL hlen
  obtain ⟨bs, cs, rfl, hlenB, hlenC, hLb, hLc⟩ := lockedFrom_split (n := 12) (m := 12) hL' hlen'
  obtain ⟨u, hu, tu, runU, sendU⟩ := run_codeVerb 0x06#16 .incrementAddress (k := .osccalAfterIncrement 1 :: k) hs (by simp)
    hLa hlenA
  obtain ⟨v, hv, tv, runV, sendV⟩ := run_codeVerb 0x06#16 .incrementAddress (k := .osccalAfterIncrement 2 :: k) hu (by simp)
    hLb hlenB
  obtain ⟨w, hw, tw, runW, sendW⟩ := run_codeVerb 0x06#16 .incrementAddress (k := .osccalAfterIncrement 3 :: k) hv (by simp)
    hLc hlenC
  have runUV := (runOn_append_next runU bs).trans runV
  refine ⟨w, hw, (tu.trans tv).trans tw, ?_, ?_⟩
  · rw [← List.append_assoc]
    exact (runOn_append_next runUV cs).trans runW
  · have h1 := sendsBits_append_left (sendU rfl) (by simp [hlenA]) (bs ++ cs)
    have h2 := sendsBits_append_left (sendsBits_append_right runU (sendV rfl)) (by simp [hlenA, hlenB]) cs
    have h3 := sendsBits_append_right runUV (sendW rfl)
    rw [List.append_assoc] at h2 h3
    rw [hlenA] at h2
    rw [List.length_append, hlenA, hlenB] at h3
    intro p hp
    simp only [List.mem_cons, List.not_mem_nil, or_false] at hp
    obtain rfl | rfl | rfl := hp
    · exact h1
    · exact h2
    · exact h3

/-- `readOSCCAL` from a high tick, up to the framing check of its answer: 93 ticks, the first 14 for the reset and the last
43 for the read. -/
theorem run_readOsccal {k : List Frame} {s : State} {is : List Input} {f : WireFrame} (hs : s.levels true)
    (hb : s.engine = .busy) (hl : s.labelProc = .idle) (hL : lockedFrom true is = true) (hlen : is.length = 93)
    (ha : answers is 62 f) :
    ∃ r w : State, Restarted s r ∧ w.labelProc = .finished ∧ (w.setLabelProc .idle).Ready false ∧
      Transferred .rx .readProgram r w ∧
      runOn is (callReadOsccal k s).notify =
        .next (returnTo (.checkFrame .word :: .join :: .osccalAfterRead :: k) f w).notify ∧
      sendsCodes is (callReadOsccal k s).notify [(0x06, 16), (0x06, 28), (0x06, 40), (0x04, 52)] := by
  obtain ⟨as, is', rfl, hlenA, hlen', hLa, hL'⟩ := lockedFrom_split (n := 14) (m := 79) hL hlen
  obtain ⟨bs, cs, rfl, hlenB, hlenC, hLb, hLc⟩ := lockedFrom_split (n := 36) (m := 43) hL' hlen'
  have hans : answers cs 12 f := by
    refine answers_append_right (is := as ++ bs) ?_
    rw [List.append_assoc, List.length_append, hlenA, hlenB]
    exact ha
  obtain ⟨r, hr, hsr, runR⟩ := run_reset (k := .osccalAfterReset :: k) hs hb hl hLa hlenA
  obtain ⟨v, hv, trv, runV, sendV⟩ := run_osccalIncrements (k := k) hr hLb hlenB
  obtain ⟨w, hwl, hw, tvw, runW, sendW⟩ := run_readVerb 0x04#16 .word .readProgram (.osccalAfterRead :: k) hv hans hLc hlenC
  have runRV := (runOn_append_next runR bs).trans runV
  refine ⟨r, w, hsr, hwl, hw, trv.trans tvw, ?_, ?_⟩
  · rw [← List.append_assoc]
    exact (runOn_append_next runRV cs).trans runW
  · have hinc : ∀ n, n ≤ 26 → sendsBits bs (osccalLoop 1 k r).notify 0x06#16 6 n →
        sendsBits (as ++ (bs ++ cs)) (callReadOsccal k s).notify 0x06#16 6 (14 + n) := by
      intro n hn h
      have h' := sendsBits_append_right runR (sendsBits_append_left h (by omega) cs)
      rwa [hlenA] at h'
    have hread := sendsBits_append_right runRV sendW
    rw [List.append_assoc, List.length_append, hlenA, hlenB] at hread
    intro p hp
    simp only [List.mem_cons, List.not_mem_nil, or_false] at hp
    obtain rfl | rfl | rfl | rfl := hp
    · exact hinc 2 (by omega) (sendV (0x06, 2) (by simp))
    · exact hinc 14 (by omega) (sendV (0x06, 14) (by simp))
    · exact hinc 26 (by omega) (sendV (0x06, 26) (by simp))
    · exact hread

/-- Settles O47: the run up to the read's last sample (`run_readOsccal`), then the framing check, the join and the sanity
check of the word, all in the instant of that sample. -/
theorem readOsccalCompletes : Obligations.ReadOsccalCompletes := by
  unfold Obligations.ReadOsccalCompletes
  intro s ⟨hb, _, hk, hl, _⟩ hs
  refine ⟨callReadOsccal [] s, by rw [← hk]; rfl, fun is f hL hlen ha hf => ?_⟩
  obtain ⟨r, w, hsr, hwl, hw, hrw, hrun, hsends⟩ := run_readOsccal (k := []) hs hb hl hL hlen ha
  refine ⟨hsends, _, hrun, ?_⟩
  obtain ⟨hcache, hresult, herr, hinfo, hreq, hparams⟩ := keepsRegisters_trans hsr.registers hrw.registers
  have hret : returnTo [.checkFrame .word, .join, .osccalAfterRead] f w =
      (osccalStore (wordOf f) (w.setLabelProc .idle)).andThen (returnTo []) := by
    rw [returnTo_checkFrame w hf, returnTo_join hwl (by simp), returnTo, setWidth_payloadOf_word]
  rw [hret]
  have hpm : w.pm = { cur := true, pend := none } := by rw [hrw.pm, hsr.pm, Line.commit_of_none]
  have hpwr : w.pwr = { cur := true, pend := none } := by rw [hrw.pwr, hsr.pwr, Line.commit_of_none]
  have hsen : w.sen = { cur := true, pend := none } := by rw [hrw.sen, hsr.sen, Line.commit_of_pend]
  have hseq : w.seq = .running := hrw.seq.trans hsr.seq
  rcases osccalStore_cases (wordOf f) (w.setLabelProc .idle) with ⟨hok, e⟩ | ⟨hc, hv, e⟩
  · have hcond : (s.params.osccalCheck && !Config.osccalValid (wordOf f)) = false := by
      simpa [← hparams, imp_iff_not_or] using hok
    rw [e, hcond]
    refine ⟨hpm, hpwr, hsen, hseq, hrw.ts, hrw.label, hresult, ⟨rfl, rfl, rfl, rfl⟩, ?_⟩
    rw [← hcache]
    rfl
  · have hcond : (s.params.osccalCheck && !Config.osccalValid (wordOf f)) = true := by
      simpa [← hparams, hv] using hc
    rw [e, hcond]
    exact ⟨hpm, hpwr, hsen, hseq, hrw.ts, hrw.label, hresult, ⟨rfl, rfl, rfl, rfl, rfl⟩, hcache⟩

end Sys2Proof.Machine
end

section
/-! The registers that the processes of an instant write: what a call, a return and a released process leave of `label`,
`result`, the cache, `done` and the engine, said once for each. -/

namespace Sys2Proof.Machine

/-! ### Calls -/

/-- What a call or a wait leaves of the registers (R64): `label`, `result`, the cache and `done` stay, and the engine goes
on as it was or has faulted. -/
structure RegsKept (s t : State) : Prop where
  label : t.label = s.label
  result : t.result = s.result
  cache : t.cache = s.cache
  done : t.done = s.done
  engine : t.engine = s.engine ∨ t.engine = .faulted

theorem RegsKept.refl (s : State) : RegsKept s s := ⟨rfl, rfl, rfl, rfl, .inl rfl⟩

theorem regsKept_raise (c : ErrorCode) (x : BitVec 32) (s : State) : RegsKept s (s.raise c x) :=
  ⟨rfl, rfl, rfl, rfl, .inr rfl⟩

theorem regsKept_suspend (p : Point) (k : List Frame) (s : State) : RegsKept s (s.suspend p k) :=
  ⟨rfl, rfl, rfl, rfl, .inl rfl⟩

theorem regsKept_callSendBits (v : WireFrame) (n : Nat) (k : List Frame) (s : State) :
    RegsKept s (callSendBits v n k s) := ⟨rfl, rfl, rfl, rfl, .inl rfl⟩

/-- The call of a verb whose operands are in range: the fork, then the bits of its code (R161). -/
theorem regsKept_fork (l : CommandLabel) (v : WireFrame) (n : Nat) (k : List Frame) (s : State) :
    RegsKept s (callSendBits v n k (s.setLabelProc (.waiting l))) := ⟨rfl, rfl, rfl, rfl, .inl rfl⟩

/-- The call of a verb with an operand out of range (R139, R174). -/
theorem regsKept_forkRaise (l : CommandLabel) (c : ErrorCode) (x : BitVec 32) (s : State) :
    RegsKept s ((s.setLabelProc (.waiting l)).raise c x) := ⟨rfl, rfl, rfl, rfl, .inr rfl⟩

theorem regsKept_callShutdown (k : List Frame) (s : State) : RegsKept s (callShutdown k s) :=
  ⟨rfl, rfl, rfl, rfl, .inl rfl⟩

theorem regsKept_callSendCommand (c : Cmd) (k : List Frame) (s : State) : RegsKept s (callSendCommand c k s) := by
  rcases callSendCommand_cases c k s with ⟨-, e⟩ | ⟨-, e⟩
  · exact e ▸ regsKept_raise _ _ s
  · exact e ▸ regsKept_callSendBits _ _ _ s

theorem regsKept_callSendCommandAndData (c : Cmd) (d : Arg) (k : List Frame) (s : State) :
    RegsKept s (callSendCommandAndData c d k s) := by
  rcases callSendCommandAndData_cases c d k s with ⟨-, e⟩ | ⟨-, -, e⟩ | ⟨-, -, e⟩
  · exact e ▸ regsKept_raise _ _ s
  · exact e ▸ regsKept_raise _ _ s
  · exact e ▸ regsKept_callSendBits _ _ _ s

theorem regsKept_callSendCommandAndByteData (c : Cmd) (d : Arg) (k : List Frame) (s : State) :
    RegsKept s (callSendCommandAndByteData c d k s) := by
  rcases callSendCommandAndByteData_cases c d k s with ⟨-, e⟩ | ⟨-, -, e⟩ | ⟨-, -, e⟩
  · exact e ▸ regsKept_raise _ _ s
  · exact e ▸ regsKept_raise _ _ s
  · exact e ▸ regsKept_callSendBits _ _ _ s

theorem regsKept_callSendCommandAndReadData (c : Cmd) (k : List Frame) (s : State) :
    RegsKept s (callSendCommandAndReadData c k s) := by
  rcases callSendCommandAndReadData_cases c k s with ⟨-, e⟩ | ⟨-, e⟩
  · exact e ▸ regsKept_raise _ _ s
  · exact e ▸ regsKept_callSendBits _ _ _ s

theorem regsKept_callSendCommandAndReadByteData (c : Cmd) (k : List Frame) (s : State) :
    RegsKept s (callSendCommandAndReadByteData c k s) := by
  rcases callSendCommandAndReadByteData_cases c k s with ⟨-, e⟩ | ⟨-, e⟩
  · exact e ▸ regsKept_raise _ _ s
  · exact e ▸ regsKept_callSendBits _ _ _ s

theorem regsKept_callLoadConfig (d : Arg) (k : List Frame) (s : State) : RegsKept s (callLoadConfig d k s) := by
  rcases callLoadConfig_cases d k s with ⟨-, e⟩ | ⟨-, e⟩
  · exact e ▸ regsKept_forkRaise _ _ _ s
  · exact e ▸ regsKept_fork _ _ _ _ s

theorem regsKept_callLoadProgram (d : Arg) (k : List Frame) (s : State) : RegsKept s (callLoadProgram d k s) := by
  rcases callLoadProgram_cases d k s with ⟨-, e⟩ | ⟨-, e⟩
  · exact e ▸ regsKept_forkRaise _ _ _ s
  · exact e ▸ regsKept_fork _ _ _ _ s

theorem regsKept_callLoadData (d : Arg) (k : List Frame) (s : State) : RegsKept s (callLoadData d k s) := by
  rcases callLoadData_cases d k s with ⟨-, e⟩ | ⟨-, e⟩
  · exact e ▸ regsKept_forkRaise _ _ _ s
  · exact e ▸ regsKept_fork _ _ _ _ s

theorem regsKept_programVerify (d : Arg) (w : Word14) (k : List Frame) (s : State) :
    RegsKept s (programVerify d w k s) := by
  rcases programVerify_cases d w k s with ⟨-, e⟩ | ⟨-, e⟩
  · exact e ▸ regsKept_fork _ _ _ _ s
  · exact e ▸ regsKept_raise _ _ s

theorem regsKept_osccalLoop (i : Nat) (k : List Frame) (s : State) : RegsKept s (osccalLoop i k s) := by
  rcases Nat.lt_or_ge 3 i with h | h
  · exact osccalLoop_last k s h ▸ regsKept_fork _ _ _ _ s
  · exact osccalLoop_more k s h ▸ regsKept_fork _ _ _ _ s

theorem regsKept_idSkipLoop (i : Nat) (v : FiveWords) (k : List Frame) (s : State) :
    RegsKept s (idSkipLoop i v k s) := by
  rcases Nat.lt_or_ge 3 i with h | h
  · exact idSkipLoop_last v k s h ▸ regsKept_fork _ _ _ _ s
  · exact idSkipLoop_more v k s h ▸ regsKept_fork _ _ _ _ s

theorem regsKept_idReadLoop (n : Nat) (v : FiveWords) (k : List Frame) (s : State) :
    RegsKept s (idReadLoop n v k s) := by
  rcases Nat.lt_or_ge n 4 with h | h
  · exact idReadLoop_more v k s h ▸ regsKept_fork _ _ _ _ s
  · exact idReadLoop_last v k s h ▸ regsKept_fork _ _ _ _ s

theorem regsKept_callBulkEraseDevice (k : List Frame) (s : State) : RegsKept s (callBulkEraseDevice k s) := by
  rcases callBulkEraseDevice_cases k s with ⟨-, e⟩ | ⟨-, -, e⟩ | ⟨-, -, -, e⟩ | ⟨-, -, -, e⟩
  · exact e ▸ regsKept_raise _ _ s
  · exact e ▸ regsKept_raise _ _ s
  · exact e ▸ regsKept_raise _ _ s
  · exact e ▸ regsKept_fork _ _ _ _ s

/-! ### Returns -/

/-- EVERYTHING A RETURN TO ITS INNERMOST CALLER CAN DO (R9): the caller waits again or faults, or returns in turn; only the
join of a verb, the writer of `result` and the two identity reads change a register before they do (R36, R39, R161). -/
theorem returnTo_cons_cases (f : Frame) (k : List Frame) (x : WireFrame) (s : State) :
    RegsKept s (returnTo (f :: k) x s) ∨
    (f ≠ .join ∧ ∃ y, returnTo (f :: k) x s = returnTo k y s) ∨
    (f = .join ∧ returnTo (f :: k) x s = returnTo k x (s.setLabelProc .idle)) ∨
    (f = .writeResult ∧ returnTo (f :: k) x s = returnTo k x (s.setResult (x.setWidth 14))) ∨
    (f = .osccalAfterRead ∧ returnTo (f :: k) x s =
      returnTo k 0#16 (s.setCache { s.cache with osccal := x.setWidth 14, osccalValid := true })) ∨
    (∃ v, f = .idAfterBandgap v ∧ returnTo (f :: k) x s = returnTo k 0#16 (idStore (v.set 4 (x.setWidth 14)) s)) := by
  cases f with
  | sendFrame f => exact .inl (regsKept_callSendBits _ _ _ s)
  | readFrame p => exact .inl ⟨rfl, rfl, rfl, rfl, .inl rfl⟩
  | checkFrame p =>
    rw [returnTo]
    rcases checkFrameNext_cases p x s with ⟨-, e⟩ | ⟨-, e⟩
    · exact .inr (.inl ⟨by simp, payloadOf p x, by rw [e]; rfl⟩)
    · exact .inl (e ▸ regsKept_raise _ _ s)
  | timedRest n =>
    rw [returnTo]
    rcases Nat.eq_zero_or_pos n with rfl | hn
    · exact .inr (.inl ⟨by simp, 0#16, rfl⟩)
    · rw [callRest_pos k s hn]
      exact .inl ⟨rfl, rfl, rfl, rfl, .inl rfl⟩
  | join =>
    rw [returnTo]
    rcases branchEnds_cases x k s with ⟨d, c, -, -, e⟩ | ⟨-, e⟩
    · exact .inl (e ▸ regsKept_raise _ _ s)
    · rw [e]
      by_cases hf : s.labelProc = .finished
      · rw [joinNext_finished x k hf]
        exact .inr (.inr (.inl ⟨rfl, rfl⟩))
      · rw [joinNext_waits x k hf]
        exact .inl (regsKept_suspend _ _ s)
  | osccalAfterRead =>
    rw [returnTo]
    rcases osccalStore_cases (x.setWidth 14) s with ⟨-, e⟩ | ⟨-, -, e⟩
    · exact .inr (.inr (.inr (.inr (.inl ⟨rfl, by rw [e]; rfl⟩))))
    · exact .inl (e ▸ regsKept_raise _ _ s)
  | idAfterBandgap v => exact .inr (.inr (.inr (.inr (.inr ⟨v, rfl, rfl⟩))))
  | writeResult => exact .inr (.inr (.inr (.inl ⟨rfl, rfl⟩)))
  | resetAfterShutdown => exact .inl ⟨rfl, rfl, rfl, rfl, .inl rfl⟩
  | programAfterLoad d => exact .inl (regsKept_fork _ _ _ _ s)
  | programAfterBegin d => exact .inl (regsKept_fork _ _ _ _ s)
  | programAfterRead d => exact .inl (regsKept_programVerify _ _ _ s)
  | osccalAfterReset => exact .inl (regsKept_osccalLoop _ _ s)
  | osccalAfterIncrement i => exact .inl (regsKept_osccalLoop _ _ s)
  | idAfterReset => exact .inl (regsKept_callLoadConfig _ _ s)
  | idAfterConfig => exact .inl (regsKept_idReadLoop _ _ _ s)
  | idAfterRead n v => exact .inl (regsKept_fork _ _ _ _ s)
  | idAfterIncrement n v => exact .inl (regsKept_idReadLoop _ _ _ s)
  | idAfterSkip i v => exact .inl (regsKept_idSkipLoop _ _ _ s)
  | bulkAfterProgram => exact .inl (regsKept_fork _ _ _ _ s)
  | cleanAfterOsccal => exact .inl (regsKept_callShutdown _ s)
  | cleanAfterId => exact .inl (regsKept_callBulkEraseDevice _ s)
  | sessionAfterClean => exact .inl (regsKept_callShutdown _ s)
  | resetAfterStart => exact .inr (.inl ⟨by simp, 0#16, rfl⟩)
  | programAfterIncrement d w => exact .inr (.inl ⟨by simp, 0#16, rfl⟩)
  | bulkAfterData => exact .inr (.inl ⟨by simp, 0#16, rfl⟩)
  | cleanAfterBulk => exact .inr (.inl ⟨by simp, 0#16, rfl⟩)
  | sessionAfterShutdown => exact .inr (.inl ⟨by simp, 0#16, rfl⟩)

/-- No return writes `label` (R23, R69). -/
theorem returnTo_label (k : List Frame) : ∀ (x : WireFrame) (s : State), (returnTo k x s).label = s.label := by
  induction k with
  | nil => intro x s; rfl
  | cons f k ih =>
    intro x s
    rcases returnTo_cons_cases f k x s with h | ⟨-, y, e⟩ | ⟨-, e⟩ | ⟨-, e⟩ | ⟨-, e⟩ | ⟨v, -, e⟩
    · exact h.label
    all_goals rw [e]; exact ih _ _

/-- The main process of `s` has gone on to `t`: it waits or has faulted, `done` as it was, or it has completed (R223,
R253). -/
def Advances (s t : State) : Prop :=
  (t.done = s.done ∧ (t.engine = s.engine ∨ t.engine = .faulted)) ∨ (t.done = true ∧ t.engine = .idle)

theorem RegsKept.advances {s t : State} (h : RegsKept s t) : Advances s t := .inl ⟨h.done, h.engine⟩

theorem Advances.of_regsKept {s s' t : State} (h : RegsKept s s') (he : s'.engine = s.engine) (g : Advances s' t) :
    Advances s t := by
  unfold Advances at g ⊢
  rwa [h.done, he] at g

/-- A process that was live before an instant is `done` after it exactly if the engine is Idle (R25). -/
theorem Advances.done_eq {s t : State} (h : Advances s t) (hd : s.done = false) (hb : s.engine = .busy) :
    t.done = (t.engine == .idle) := by
  obtain ⟨e, g | g⟩ | ⟨e, g⟩ := h
  · rw [e, g, hd, hb]; rfl
  · rw [e, g, hd]; rfl
  · rw [e, g]; rfl

theorem advances_returnTo (k : List Frame) : ∀ (x : WireFrame) (s : State), Advances s (returnTo k x s) := by
  induction k with
  | nil => intro x s; exact .inr ⟨rfl, rfl⟩
  | cons f k ih =>
    intro x s
    rcases returnTo_cons_cases f k x s with h | ⟨-, y, e⟩ | ⟨-, e⟩ | ⟨-, e⟩ | ⟨-, e⟩ | ⟨v, -, e⟩
    · exact h.advances
    all_goals rw [e]; exact ih _ _

/-- Nothing waits for a whole request (R1). -/
theorem eq_nil_of_nested_request {k : List Frame} (h : nested .request k = true) : k = [] := by
  cases k with
  | nil => rfl
  | cons f k => cases f <;> cases (nested_cons.mp h).1

/-- A return writes `result` only through the outermost frame of a reading request, which then completes (R36, R223). -/
theorem returnTo_result (k : List Frame) : ∀ (c : Callee) (x : WireFrame) (s : State), nested c k = true →
    (returnTo k x s).result = s.result ∨
      (.writeResult ∈ k ∧ (returnTo k x s).engine = .idle ∧ (returnTo k x s).done = true) := by
  induction k with
  | nil => intro c x s _; exact .inl rfl
  | cons f k ih =>
    intro c x s hn
    obtain ⟨-, hk⟩ := nested_cons.mp hn
    have hup : ∀ {y : WireFrame} {s' : State}, returnTo (f :: k) x s = returnTo k y s' → s'.result = s.result →
        (returnTo (f :: k) x s).result = s.result ∨ (.writeResult ∈ f :: k ∧
          (returnTo (f :: k) x s).engine = .idle ∧ (returnTo (f :: k) x s).done = true) := by
      intro y s' e hs
      rw [e, ← hs]
      exact (ih f.callee y s' hk).imp id fun ⟨hm, he⟩ => ⟨List.mem_cons_of_mem f hm, he⟩
    rcases returnTo_cons_cases f k x s with h | ⟨-, y, e⟩ | ⟨-, e⟩ | ⟨rfl, e⟩ | ⟨-, e⟩ | ⟨v, -, e⟩
    · exact .inl h.result
    · exact hup e rfl
    · exact hup e rfl
    · obtain rfl := eq_nil_of_nested_request hk
      exact .inr ⟨List.mem_cons_self, rfl, rfl⟩
    · exact hup e rfl
    · exact hup e rfl

/-! ### Returns that write the cache (R39, R196, R197) -/

/-- An identity read that was waiting in `k` has returned and has written its part of the cache of `s`; the engine goes on
without a fault. -/
def CacheWritten (k : List Frame) (s t : State) : Prop :=
  t.engine ≠ .faulted ∧
  ((.osccalAfterRead ∈ k ∧ .osccalAfterRead ∉ t.callers ∧
      ∃ w, t.cache = { s.cache with osccal := w, osccalValid := true }) ∨
    (∃ v, .idAfterBandgap v ∈ k ∧ .idAfterBandgap v ∉ t.callers ∧
      ∃ w, t.cache = { s.cache with id0 := v.v0, id1 := v.v1, id2 := v.v2, id3 := v.v3, bandgap := w,
                                    idValid := true, bandgapValid := true }))

theorem CacheWritten.mono {k k' : List Frame} {s s' t : State} (h : CacheWritten k s t) (hk : ∀ f ∈ k, f ∈ k')
    (hs : s'.cache = s.cache) : CacheWritten k' s' t := by
  unfold CacheWritten at h ⊢
  rw [hs]
  obtain ⟨hf, ⟨hm, hc⟩ | ⟨v, hm, hc⟩⟩ := h
  · exact ⟨hf, .inl ⟨hk _ hm, hc⟩⟩
  · exact ⟨hf, .inr ⟨v, hk _ hm, hc⟩⟩

/-- Only `session` waits for `cleanDevice` (R199, R204). -/
theorem nested_clean_cases {k : List Frame} (h : nested .clean k = true) : k = [] ∨ k = [.sessionAfterClean] := by
  cases k with
  | nil => exact .inl rfl
  | cons f k =>
    obtain ⟨hf, hk⟩ := nested_cons.mp h
    cases f <;> cases hf
    cases k with
    | nil => exact .inr rfl
    | cons g k => cases g <;> cases (nested_cons.mp hk).1

/-- Only `cleanDevice` waits for `readOSCCAL` (R196, R199). -/
theorem nested_osccal_cases {k : List Frame} (h : nested .osccal k = true) :
    k = [] ∨ ∃ c, k = .cleanAfterOsccal :: c ∧ nested .clean c = true := by
  cases k with
  | nil => exact .inl rfl
  | cons f k =>
    obtain ⟨hf, hk⟩ := nested_cons.mp h
    cases f <;> cases hf
    exact .inr ⟨k, rfl, hk⟩

/-- Only `cleanDevice` waits for `readIDAndBandGap` (R197, R199). -/
theorem nested_identity_cases {k : List Frame} (h : nested .identity k = true) :
    k = [] ∨ ∃ c, k = .cleanAfterId :: c ∧ nested .clean c = true := by
  cases k with
  | nil => exact .inl rfl
  | cons f k =>
    obtain ⟨hf, hk⟩ := nested_cons.mp h
    cases f <;> cases hf
    exact .inr ⟨k, rfl, hk⟩

/-- The return of `readOSCCAL` ends its request or begins the next read (R196, R199). -/
theorem returnTo_of_nested_osccal {k : List Frame} (x : WireFrame) {s : State} (hb : s.engine = .busy)
    (hn : nested .osccal k = true) :
    (returnTo k x s).cache = s.cache ∧ (returnTo k x s).engine ≠ .faulted ∧
      .osccalAfterRead ∉ (returnTo k x s).callers := by
  rcases nested_osccal_cases hn with rfl | ⟨c, rfl, hc⟩
  · exact ⟨rfl, by simp [returnTo], by simp [returnTo]⟩
  · have e : returnTo (.cleanAfterOsccal :: c) x s =
        callShutdown (.resetAfterShutdown :: .idAfterReset :: .cleanAfterId :: c) s := rfl
    rw [e]
    refine ⟨rfl, by rw [callShutdown_eq]; simp [hb], ?_⟩
    rcases nested_clean_cases hc with rfl | rfl <;> simp [callShutdown]

/-- The return of `readIDAndBandGap`, the cache full, ends its request or begins the erase (R197 to R199). -/
theorem returnTo_of_nested_identity {k : List Frame} (x : WireFrame) {s : State} (h : s.Live k)
    (hn : nested .identity k = true) (hi : s.cache.idValid = true) (hg : s.cache.bandgapValid = true) :
    (returnTo k x s).cache = s.cache ∧ (returnTo k x s).engine ≠ .faulted ∧
      ∀ v, .idAfterBandgap v ∉ (returnTo k x s).callers := by
  rcases nested_identity_cases hn with rfl | ⟨c, rfl, hc⟩
  · exact ⟨rfl, by simp [returnTo], by simp [returnTo]⟩
  · have ho : s.cache.osccalValid = true := h.osccal List.mem_cons_self
    have e : returnTo (.cleanAfterId :: c) x s =
        callEraseProgram (.bulkAfterProgram :: .cleanAfterBulk :: c) s := by
      show callBulkEraseDevice _ s = _
      rcases callBulkEraseDevice_cases (.cleanAfterBulk :: c) s with ⟨g, -⟩ | ⟨-, g, -⟩ | ⟨-, -, g, -⟩ | ⟨-, -, -, e⟩
      · cases ho.symm.trans g
      · cases hi.symm.trans g
      · cases hg.symm.trans g
      · exact e
    rw [e]
    refine ⟨rfl, by rw [callEraseProgram_eq, callSendBits_eq]; simp [h.busy], fun v => ?_⟩
    rcases nested_clean_cases hc with rfl | rfl <;> simp [callEraseProgram_eq, callSendBits]

/-- A return from a live process leaves the cache alone, or is the return of an identity read (R39). -/
theorem returnTo_cache (k : List Frame) : ∀ (c : Callee) (x : WireFrame) (s : State), s.Live k → nested c k = true →
    (returnTo k x s).cache = s.cache ∨ CacheWritten k s (returnTo k x s) := by
  induction k with
  | nil => intro c x s _ _; exact .inl rfl
  | cons f k ih =>
    intro c x s h hn
    obtain ⟨-, hk⟩ := nested_cons.mp hn
    have hup : ∀ {y : WireFrame} {s' : State}, returnTo (f :: k) x s = returnTo k y s' → s'.Live k →
        s'.cache = s.cache →
        (returnTo (f :: k) x s).cache = s.cache ∨ CacheWritten (f :: k) s (returnTo (f :: k) x s) := by
      intro y s' e hl hs
      rw [e, ← hs]
      exact (ih f.callee y s' hl hk).imp id fun g => g.mono (fun _ => List.mem_cons_of_mem f) hs.symm
    rcases returnTo_cons_cases f k x s with g | ⟨hj, y, e⟩ | ⟨rfl, e⟩ | ⟨rfl, e⟩ | ⟨rfl, e⟩ | ⟨v, rfl, e⟩
    · exact .inl g.cache
    · exact hup e (h.pop hj) rfl
    · exact hup e (h.joined hk) rfl
    · have hl : (s.setResult (x.setWidth 14)).Live k := h.pop (by simp)
      exact hup e hl rfl
    · rw [e]
      have hb : (s.setCache { s.cache with osccal := x.setWidth 14, osccalValid := true }).engine = .busy := h.busy
      obtain ⟨hc, hf, hm⟩ := returnTo_of_nested_osccal 0#16 hb hk
      exact .inr ⟨hf, .inl ⟨List.mem_cons_self, hm, x.setWidth 14, hc⟩⟩
    · rw [e]
      have hl : (idStore (v.set 4 (x.setWidth 14)) s).Live k :=
        (h.pop (by simp)).setCache (cacheOk_idStore h.cacheOk _) id
      obtain ⟨hc, hf, hm⟩ := returnTo_of_nested_identity 0#16 hl hk rfl rfl
      exact .inr ⟨hf, .inr ⟨v, List.mem_cons_self, hm v, x.setWidth 14, hc⟩⟩

/-! ### A released process, and the call of an instruction -/

/-- The loop of `rest` waits again or returns (R126 to R128). -/
theorem restLoopFrom_cases (c i : Nat) (k : List Frame) (s : State) :
    restLoopFrom c i k s = .waits (s.suspend (.restLoop c i) k) ∨
      restLoopFrom c i k s = .returns 0#16 (s.writeSen true) := by
  by_cases h : i ≤ c - 1 ∧ s.ts = .rest
  · exact .inl (restLoopFrom_waits k h.1 h.2)
  · exact .inr (restLoopFrom_ends k ((not_and_or.mp h).imp_left Nat.lt_of_not_le))

/-- EVERYTHING A RELEASED PROCESS CAN DO outside a join: it waits again, or returns; only the first edges of `start` and
`shutdown` write `label` (R23, R190, R191). -/
theorem goOn_cases {s : State} {p : Point} {k : List Frame} (h : s.Live k) (hv : p.callee ≠ .verb) :
    RegsKept s (p.goOn k s) ∨
    ((p = .startPm ∨ p = .shutdownData) ∧ RegsKept (s.setLabel .none) (p.goOn k s)) ∨
    (∃ x s', s'.Live k ∧ RegsKept s s' ∧ p.goOn k s = returnTo k x s') := by
  cases p with
  | joining x => exact absurd rfl hv
  | dispatch => exact .inl (.refl s)
  | transact w => exact .inl (.refl s)
  | sendBit v n j =>
    rw [Point.goOn]
    rcases Nat.lt_or_ge (j + 1) n with hj | hj
    · rw [sendBitEdge_more k s hj]
      exact .inl ⟨rfl, rfl, rfl, rfl, .inl rfl⟩
    · rw [sendBitEdge_last k s hj]
      exact .inr (.inr ⟨_, s.writeData (v.getLsbD j), h, ⟨rfl, rfl, rfl, rfl, .inl rfl⟩, rfl⟩)
  | readBit n j r =>
    rw [Point.goOn]
    rcases Nat.lt_or_ge (j + 1) n with hj | hj
    · rw [readBitEdge_more r k s hj]
      exact .inl ⟨rfl, rfl, rfl, rfl, .inl rfl⟩
    · rw [readBitEdge_last r k s hj]
      exact .inr (.inr ⟨_, s.writeData s.lineIn, h, ⟨rfl, rfl, rfl, rfl, .inl rfl⟩, rfl⟩)
  | restFirst c =>
    have hl : (((s.setTs .rest).writeData false).writeSen true).Live k := h
    rw [Point.goOn, restFirstEdge]
    rcases restLoopFrom_cases c 1 k ((s.setTs .rest).writeData false) with e | e
    · exact .inl (e ▸ ⟨rfl, rfl, rfl, rfl, .inl rfl⟩)
    · exact .inr (.inr ⟨0#16, _, hl, ⟨rfl, rfl, rfl, rfl, .inl rfl⟩, by rw [e]; rfl⟩)
  | restLoop c i =>
    have hl : (s.writeSen true).Live k := h
    rw [Point.goOn, restLoopEdge]
    rcases restLoopFrom_cases c (i + 1) k s with e | e
    · exact .inl (e ▸ ⟨rfl, rfl, rfl, rfl, .inl rfl⟩)
    · exact .inr (.inr ⟨0#16, _, hl, ⟨rfl, rfl, rfl, rfl, .inl rfl⟩, by rw [e]; rfl⟩)
  | startPm => exact .inr (.inl ⟨.inl rfl, rfl, rfl, rfl, rfl, .inl rfl⟩)
  | startPwr => exact .inl ⟨rfl, rfl, rfl, rfl, .inl rfl⟩
  | startSen => exact .inr (.inr ⟨_, startSenEdge s, h, ⟨rfl, rfl, rfl, rfl, .inl rfl⟩, rfl⟩)
  | shutdownData => exact .inr (.inl ⟨.inr rfl, rfl, rfl, rfl, rfl, .inl rfl⟩)
  | shutdownPm => exact .inl ⟨rfl, rfl, rfl, rfl, .inl rfl⟩
  | shutdownPwr => exact .inl ⟨rfl, rfl, rfl, rfl, .inl rfl⟩
  | shutdownEnd => exact .inr (.inr ⟨_, shutdownEndEdge s, h, ⟨rfl, rfl, rfl, rfl, .inl rfl⟩, rfl⟩)

/-- EVERYTHING THE CALL OF AN INSTRUCTION CAN DO with nothing waiting for its return: it waits or faults, a REST of no
cycles completes at once, and a SESSION clears the cache (R129, R204). -/
theorem exec_cases {i : Instr} {s t : State} (hk : s.callers = []) (h : exec i s = .next t) :
    RegsKept s t ∨ t = s.complete ∨
    (i = .session ∧ t = callShutdown [.resetAfterShutdown, .osccalAfterReset, .cleanAfterOsccal, .sessionAfterClean]
      (s.setCache IdentityCache.empty)) := by
  cases i <;> cases h
  case session => exact .inr (.inr ⟨rfl, by rw [hk]; rfl⟩)
  case rest n =>
    rcases Nat.eq_zero_or_pos n.toNat with h0 | hp
    · exact .inr (.inl (by rw [h0, hk]; rfl))
    · rw [callRest_pos _ s hp]
      exact .inl ⟨rfl, rfl, rfl, rfl, .inl rfl⟩
  case bulkEraseDevice => exact .inl (regsKept_callBulkEraseDevice _ s)
  case programCycle d => exact .inl (regsKept_callLoadProgram d _ s)
  case loadConfig d => exact .inl (regsKept_callLoadConfig d _ s)
  case loadProgram d => exact .inl (regsKept_callLoadProgram d _ s)
  case loadData d => exact .inl (regsKept_callLoadData d _ s)
  case sendCmd c => exact .inl (regsKept_callSendCommand c _ s)
  case sendCmdData c d => exact .inl (regsKept_callSendCommandAndData c d _ s)
  case sendCmdByte c d => exact .inl (regsKept_callSendCommandAndByteData c d _ s)
  case sendCmdRead c => exact .inl (regsKept_callSendCommandAndReadData c _ s)
  case sendCmdReadByte c => exact .inl (regsKept_callSendCommandAndReadByteData c _ s)
  all_goals exact .inl ⟨rfl, rfl, rfl, rfl, .inl rfl⟩

end Sys2Proof.Machine
end

section
/-! The instant under the invariant: the order of the two processes makes no difference, and what an instant can do from a
state that meets the invariant, said once. -/

namespace Sys2Proof.Machine

/-! ### The label process after the main process (R68) -/

/-- The label process changes nothing that another register's write looks at. -/
theorem runLabel_eq (e : Events) (s : State) :
    s.runLabel e = { s with label := if e.clkRise then s.labelProc.publishes s.label else s.label,
                            labelProc := if e.clkRise then s.labelProc.ended else s.labelProc } := by
  cases h : e.clkRise with
  | true => rw [runLabel_of_rise s h]; rfl
  | false => rw [runLabel_of_no_rise s h]; rfl

theorem runLabel_setTs (e : Events) (t : TransportState) (s : State) :
    (s.setTs t).runLabel e = (s.runLabel e).setTs t := by rw [runLabel_eq, runLabel_eq]; rfl

theorem runLabel_writeData (e : Events) (b : Bool) (s : State) :
    (s.writeData b).runLabel e = (s.runLabel e).writeData b := by rw [runLabel_eq, runLabel_eq]; rfl

theorem runLabel_writeSen (e : Events) (b : Bool) (s : State) :
    (s.writeSen b).runLabel e = (s.runLabel e).writeSen b := by rw [runLabel_eq, runLabel_eq]; rfl

@[simp] theorem runLabel_ts (e : Events) (s : State) : (s.runLabel e).ts = s.ts := by rw [runLabel_eq]

@[simp] theorem runLabel_lineIn (e : Events) (s : State) : (s.runLabel e).lineIn = s.lineIn := by rw [runLabel_eq]

/-- A main process that waits elsewhere than at a join leaves the label process its part of the instant. -/
theorem labelAfterMain_suspend {e : Events} {before s : State} {v : CommandLabel} {p : Point} (k : List Frame)
    (hb : before.labelProc = .waiting v) (hs : s.labelProc = .waiting v) (hp : p.callee ≠ .verb) :
    labelAfterMain e before (s.suspend p k) = (s.runLabel e).suspend p k := by
  rw [labelAfterMain_live (by rw [hb]; rfl) (by rw [State.suspend_labelProc, hs]; simp)]
  rw [runLabel_eq, runLabel_eq]
  cases p <;> first | rfl | exact absurd rfl hp

/-- A main process that faults leaves the label process its part of the instant (R174). -/
theorem labelAfterMain_raise {e : Events} {before s : State} {v : CommandLabel} (c : ErrorCode) (x : BitVec 32)
    (hb : before.labelProc = .waiting v) (hs : s.labelProc = .waiting v) :
    labelAfterMain e before (s.raise c x) = (s.runLabel e).raise c x := by
  rw [labelAfterMain_ended hb rfl, publishAtFault_eq, runLabel_eq, hs]
  rfl

/-- A protocol branch that ends before its label process joins it in the same instant, as it would after it (R70). -/
theorem labelAfterMain_joinNext {e : Events} {before s : State} {v : CommandLabel} (x : WireFrame) (k : List Frame)
    (hb : before.labelProc = .waiting v) (hs : s.labelProc = .waiting v) :
    labelAfterMain e before ((joinNext x k s).andThen (returnTo k)) =
      (joinNext x k (s.runLabel e)).andThen (returnTo k) := by
  rw [joinNext_waits x k (by rw [hs]; simp)]
  show labelAfterMain e before (s.suspend (.joining x) k) = _
  rw [labelAfterMain_live (by rw [hb]; rfl) (by rw [State.suspend_labelProc, hs]; simp)]
  cases he : e.clkRise with
  | true =>
    have hf : s.published.labelProc = .finished := by unfold State.published; rw [hs]; rfl
    rw [runLabel_of_rise _ he, runLabel_of_rise _ he, published_suspend, joinNext_finished x k hf]
    show (if (s.published.labelProc == .finished) = true then _ else _) = _
    rw [hf, if_pos (by rfl), joinNext_finished x k (s := s.published.suspend _ k) hf]
    exact returnTo_suspend k x { s.published with labelProc := .idle } (.joining x) k
  | false =>
    rw [runLabel_of_no_rise _ he, runLabel_of_no_rise _ he, joinNext_waits x k (by rw [hs]; simp)]
    show (if (s.labelProc == .finished) = true then _ else _) = _
    rw [hs, if_neg (by simp)]
    rfl

/-- A return inside a verb whose label process waits: the order of the two processes makes no difference (R68). -/
theorem labelAfterMain_returnTo {e : Events} {before : State} {v : CommandLabel} (hb : before.labelProc = .waiting v)
    (k : List Frame) : ∀ (c : Callee) (x : WireFrame) (s : State), nested c k = true → .join ∈ k →
      s.labelProc = .waiting v →
      labelAfterMain e before (returnTo k x s) = returnTo k x (s.runLabel e) := by
  induction k with
  | nil => intro c x s _ hj; simp at hj
  | cons f k ih =>
    intro c x s hn hj hs
    obtain ⟨-, hk⟩ := nested_cons.mp hn
    have hlow : f ≠ .join → f.callee.layer < 3 := fun hf =>
      Nat.lt_of_not_le fun hl => join_notMem_of_nested hk hl ((List.mem_cons.mp hj).resolve_left (Ne.symm hf))
    have hj' : f ≠ .join → .join ∈ k := fun hf => (List.mem_cons.mp hj).resolve_left (Ne.symm hf)
    cases f with
    | sendFrame f =>
      have h := labelAfterMain_suspend (e := e) (s := s.setTs .tx) (p := .sendBit f 16 0) k hb hs (by simp [Point.callee])
      rwa [runLabel_setTs] at h
    | readFrame p =>
      have h := labelAfterMain_suspend (e := e) (s := s.setTs .rx) (p := .readBit 16 0 0#16) (.checkFrame p :: k) hb hs
        (by simp [Point.callee])
      rwa [runLabel_setTs] at h
    | checkFrame p =>
      rw [returnTo, returnTo]
      rcases checkFrameNext_cases p x s with ⟨hf, e1⟩ | ⟨hf, e1⟩ <;>
        rcases checkFrameNext_cases p x (s.runLabel e) with ⟨hf', e2⟩ | ⟨hf', e2⟩
      · rw [e1, e2]
        exact ih _ _ s hk (hj' (by simp)) hs
      · exact absurd hf hf'
      · exact absurd hf' hf
      · rw [e1, e2]
        exact labelAfterMain_raise _ _ hb hs
    | timedRest n =>
      rw [returnTo, returnTo]
      rcases Nat.eq_zero_or_pos n with rfl | hn
      · exact ih _ 0#16 s hk (hj' (by simp)) hs
      · rw [callRest_pos k s hn, callRest_pos k _ hn, ← runLabel_writeSen]
        exact labelAfterMain_suspend k hb hs (by simp [Point.callee])
    | join =>
      rw [returnTo, returnTo]
      rcases branchEnds_cases x k s with ⟨d, c, hc, hd, e1⟩ | ⟨hd, e1⟩ <;>
        rcases branchEnds_cases x k (s.runLabel e) with ⟨d', c', hc', hd', e2⟩ | ⟨hd', e2⟩
      · rw [e1, e2]
        cases hc.symm.trans hc'
        exact labelAfterMain_raise _ _ hb hs
      · exact absurd (hd' d c hc) hd
      · exact absurd (hd d' c' hc') hd'
      · rw [e1, e2]
        exact labelAfterMain_joinNext x k hb hs
    | _ => exact absurd (hlow (by simp)) (by simp [Frame.callee, Callee.layer])

/-- A released process inside a verb whose label process waits: the order makes no difference (R68). -/
theorem labelAfterMain_goOn {e : Events} {before s : State} {v : CommandLabel} {p : Point} {k : List Frame}
    (hb : before.labelProc = .waiting v) (hs : s.labelProc = .waiting v) (hp : p.inRange = true)
    (hv : p.callee ≠ .verb) (hn : nested p.callee k = true) (hj : .join ∈ k) :
    labelAfterMain e before (p.goOn k s) = p.goOn k (s.runLabel e) := by
  have hloop : ∀ (c i : Nat) (t : State), t.labelProc = .waiting v → nested .rest k = true →
      labelAfterMain e before ((restLoopFrom c i k t).andThen (returnTo k)) =
        (restLoopFrom c i k (t.runLabel e)).andThen (returnTo k) := by
    intro c i t ht hr
    by_cases h : i ≤ c - 1 ∧ t.ts = .rest
    · rw [restLoopFrom_waits k h.1 h.2, restLoopFrom_waits k h.1 (by rw [runLabel_ts]; exact h.2)]
      exact labelAfterMain_suspend k hb ht (by simp [Point.callee])
    · have h' := (not_and_or.mp h).imp_left Nat.lt_of_not_le
      rw [restLoopFrom_ends k h', restLoopFrom_ends k (by rw [runLabel_ts]; exact h'), ← runLabel_writeSen]
      exact labelAfterMain_returnTo hb k .rest 0#16 _ hr hj ht
  have hlow : p.callee.layer < 3 := Nat.lt_of_not_le fun hl => join_notMem_of_nested hn hl hj
  cases p with
  | joining x => exact absurd rfl hv
  | dispatch => cases hp
  | transact w => cases hp
  | sendBit w n j =>
    rw [Point.goOn, Point.goOn]
    rcases Nat.lt_or_ge (j + 1) n with h | h
    · rw [sendBitEdge_more k _ h, sendBitEdge_more k _ h, ← runLabel_writeData]
      exact labelAfterMain_suspend k hb hs (by simp [Point.callee])
    · rw [sendBitEdge_last k _ h, sendBitEdge_last k _ h, ← runLabel_writeData]
      exact labelAfterMain_returnTo hb k .sendBits 0#16 _ hn hj hs
  | readBit n j r =>
    rw [Point.goOn, Point.goOn]
    rcases Nat.lt_or_ge (j + 1) n with h | h
    · rw [readBitEdge_more r k _ h, readBitEdge_more r k _ h, runLabel_lineIn, ← runLabel_writeData]
      exact labelAfterMain_suspend k hb hs (by simp [Point.callee])
    · rw [readBitEdge_last r k _ h, readBitEdge_last r k _ h, runLabel_lineIn, ← runLabel_writeData]
      exact labelAfterMain_returnTo hb k .readBits _ _ hn hj hs
  | restFirst c =>
    have h := hloop c 1 ((s.setTs .rest).writeData false) hs hn
    rwa [runLabel_writeData, runLabel_setTs] at h
  | restLoop c i => exact hloop c (i + 1) s hs hn
  | _ => exact absurd hlow (by simp [Point.callee, Callee.layer])

/-- Whether a process outside a join is released does not depend on the state (R67). -/
theorem released_of_not_verb {p : Point} (hv : p.callee ≠ .verb) (e : Events) (s t : State) :
    p.released e s = p.released e t := by
  cases p <;> first | rfl | exact absurd rfl hv

/-- THE ORDER OF THE TWO PROCESSES MAKES NO DIFFERENCE in a sound state: the instant of a suspended main process is that of
the label process followed by that of the main process (R68, R69, R70). -/
theorem processed_eq {s : State} {p : Process} (e : Events) (i : Input) (h : s.Sound) (hm : s.main = some p) :
    processed e i p s = resume e p (s.runLabel e) := by
  suffices hmain : labelAfterMain e s (resume e p s) = resume e p (s.runLabel e) by
    unfold processed
    rw [hmain, ite_self]
  cases hs : s.labelProc.suspended with
  | false => rw [labelAfterMain_of_not_waiting hs, runLabel_of_not_waiting hs]
  | true =>
    obtain ⟨v, hw⟩ := exists_waiting_of_suspended hs
    have hstay : resume e p s = s → labelAfterMain e s (resume e p s) = (s.runLabel e).resumeJoin := fun hr => by
      rw [hr, labelAfterMain_live hs (by rw [hw]; simp)]
    obtain ⟨pt, k⟩ := p
    by_cases hv : pt.callee = .verb
    · obtain ⟨x, rfl⟩ := exists_joining_of_callee hv
      rw [hstay (by unfold resume Point.released; rw [hw]; rfl)]
      unfold State.resumeJoin
      rw [runLabel_main, hm]
      rfl
    · obtain ⟨hl, hr, hn⟩ := live_of_suspended h hm hv
      have hj : .join ∈ k := hl.label.mpr (by rw [hw]; simp)
      have hrel : ∀ t, pt.released e t = pt.released e s := fun t => released_of_not_verb hv e t s
      cases hg : pt.released e s with
      | true =>
        have hgo : ∀ t, resume e { point := pt, callers := k } t = pt.goOn k t := fun t => if_pos ((hrel t).trans hg)
        rw [hgo, hgo]
        exact labelAfterMain_goOn hw hw hr hv hn hj
      | false =>
        have hno : ∀ t, resume e { point := pt, callers := k } t = t := fun t =>
          if_neg (by rw [(hrel t).trans hg]; exact Bool.false_ne_true)
        rw [hstay (hno s), hno]
        unfold State.resumeJoin
        rw [runLabel_main, hm]
        cases pt <;> first | rfl | exact absurd rfl hv

/-! ### Everything an instant can do under the invariant -/

/-- EVERYTHING A SUSPENDED PROCESS CAN DO in an instant, once its label process has run: it waits or faults; it is at the
first edge of `start` or `shutdown`, which clears the label; or it returns to callers
that are live (R23, R67, R70). -/
theorem resume_runLabel_cases {s : State} {p : Process} (e : Events) (h : s.Sound) (hm : s.main = some p) :
    RegsKept (s.runLabel e) (resume e p (s.runLabel e)) ∨
    ((p.point = .startPm ∨ p.point = .shutdownData) ∧ e.clkRise = true ∧
      RegsKept (s.setLabel .none) (resume e p (s.runLabel e))) ∨
    (∃ c x s', s'.Live p.callers ∧ nested c p.callers = true ∧ RegsKept (s.runLabel e) s' ∧
      resume e p (s.runLabel e) = returnTo p.callers x s') := by
  obtain ⟨pt, k⟩ := p
  cases hrel : pt.released e (s.runLabel e) with
  | false =>
    have hno : resume e { point := pt, callers := k } (s.runLabel e) = s.runLabel e :=
      if_neg (by rw [hrel]; exact Bool.false_ne_true)
    rw [hno]
    exact .inl (.refl _)
  | true =>
    rw [show resume e { point := pt, callers := k } (s.runLabel e) = pt.goOn k (s.runLabel e) from if_pos hrel]
    by_cases hv : pt.callee = .verb
    · obtain ⟨x, rfl⟩ := exists_joining_of_callee hv
      obtain ⟨-, hl, hn⟩ := live_of_joining h hm
      have hf : (s.runLabel e).labelProc = .finished := beq_iff_eq.mp hrel
      have hl' : ((s.runLabel e).setLabelProc .idle).Live k := by rw [runLabel_eq]; exact hl
      rw [Point.goOn, joinNext_finished x k hf]
      exact .inr (.inr ⟨.verb, x, _, hl', hn, ⟨rfl, rfl, rfl, rfl, .inl rfl⟩, rfl⟩)
    · have hS : (s.runLabel e).Sound := runLabel_sound e h fun q hq => by rw [hm] at hq; cases hq; exact hv
      obtain ⟨hl, -, hn⟩ := live_of_suspended hS ((runLabel_main e s).trans hm) hv
      rcases goOn_cases (p := pt) hl hv with g | ⟨hp, g⟩ | ⟨x, s', hl', g, e'⟩
      · exact .inl g
      · have hlay : 3 ≤ pt.callee.layer := by rcases hp with rfl | rfl <;> decide
        have hidle : s.labelProc = .idle := by
          obtain ⟨hl, -, -⟩ := live_of_suspended h hm hv
          exact Decidable.not_not.mp fun hne => join_notMem_of_nested hn hlay (hl.label.mpr hne)
        have hrun : s.runLabel e = s := runLabel_of_not_waiting (by rw [hidle]; rfl)
        rw [hrun] at g hrel ⊢
        exact .inr (.inl ⟨hp, by rcases hp with rfl | rfl <;> exact hrel, g⟩)
      · exact .inr (.inr ⟨_, x, s', hl', hn, g, e'⟩)

/-- Acceptance at an instant is what the statements call a presented request (R221). -/
theorem acceptable_arrived (i : Input) (s : State) :
    acceptable (instantEvents i s) i (arrived i s) = presented i s := by
  simp [acceptable, presented, instantEvents, gateEvents, levelEvents, arrived]

/-- A plain instant runs step 7 on what acceptance leaves, and then the notification (R65). -/
theorem plainInstant_cases {s t : State} {i : Input} (hp : plainInstant i s = true) (h : step (s.feed i) = .next t) :
    ∃ u, runProcesses (instantEvents i s) i ((arrived i s).accept (instantEvents i s) i) = .next u ∧ t = u.notify := by
  obtain ⟨hany, hrst⟩ := Bool.and_eq_true_iff.mp hp
  rw [step_feed] at h
  rcases instant_cases h with ⟨g, -⟩ | ⟨-, g, -⟩ | ⟨-, -, hu⟩
  · cases hany.symm.trans g
  · rw [g] at hrst
    cases hrst
  · exact hu

/-- Everything acceptance can do, in the words of the statements (R108, R221). -/
theorem accept_arrived_cases (i : Input) (s : State) :
    (presented i s = false ∧ (arrived i s).accept (instantEvents i s) i = arrived i s) ∨
    (presented i s = true ∧ (arrived i s).accept (instantEvents i s) i =
      (accepted i s).raise .illegalRequest i.reqWord) ∨
    (presented i s = true ∧ (arrived i s).accept (instantEvents i s) i = accepted i s) := by
  have h := accept_cases (instantEvents i s) i (arrived i s)
  rw [acceptable_arrived] at h
  rcases h with h | ⟨hp, -, e⟩ | ⟨hp, -, e⟩
  · exact .inl h
  · exact .inr (.inl ⟨hp, e⟩)
  · exact .inr (.inr ⟨hp, e⟩)

/-- An Idle engine has no label process (R34, R69). -/
theorem labelProc_of_idle {s : State} (h : s.Sound) (he : s.engine = .idle) : s.labelProc = .idle := by
  cases hm : s.main with
  | none => exact ((mainOk_none hm).mp h.1).2
  | some p => cases he.symm.trans ((mainOk_some hm).mp h.1).1

/-- Step 7 without a label process is the main process (R68). -/
theorem runProcesses_of_no_label {s : State} (e : Events) (i : Input) (hl : s.labelProc = .idle) :
    runProcesses e i s = runMain e s := by
  have hw : s.labelProc.suspended = false := by rw [hl]; rfl
  unfold runProcesses
  rw [runLabel_of_not_waiting hw]
  cases runMain e s with
  | next u =>
    show (if i.mainFirst = true then Host.Outcome.next (labelAfterMain e s u) else .next u) = .next u
    rw [labelAfterMain_of_not_waiting hw, ite_self]
  | fault r => exact ite_self _
  | refused r => exact ite_self _

/-- A process about to dispatch calls the instruction that `req` decodes to, or refuses the word (R222). -/
theorem runMain_dispatch_cases {e : Events} {s t : State} {k : List Frame}
    (hm : s.main = some { point := .dispatch, callers := k }) (h : runMain e s = .next t) :
    (∃ ins, decodeRequest s.req = .ok ins ∧ exec ins s = .next t) ∨ t = s.raise .illegalRequest s.req := by
  unfold runMain at h
  rw [hm] at h
  dsimp only at h
  split at h
  · rename_i ins hd
    exact .inl ⟨ins, hd, h⟩
  · cases h
    exact .inr rfl

/-- EVERYTHING A PLAIN INSTANT CAN DO from a state that meets the invariant, before its notification (R65, R221): nothing
is running; a request is accepted and faults; the instruction accepted is called; or a suspended process goes on. -/
theorem plainInstant_invariant_cases {s t : State} {i : Input} (hI : invariant s = true) (hp : plainInstant i s = true)
    (h : step (s.feed i) = .next t) :
    ∃ u, t = u.notify ∧
      ((presented i s = false ∧ s.main = none ∧ s.engine ≠ .busy ∧ u = arrived i s) ∨
      (presented i s = true ∧ s.engine = .idle ∧ ∃ c x, u = (accepted i s).raise c x) ∨
      (presented i s = true ∧ s.engine = .idle ∧
        ∃ ins, decodeRequest i.reqWord = .ok ins ∧ exec ins (accepted i s) = .next u) ∨
      (presented i s = false ∧ s.engine = .busy ∧ (arrived i s).Sound ∧ ∃ p, s.main = some p ∧
        u = resume (instantEvents i s) p ((arrived i s).runLabel (instantEvents i s)))) := by
  obtain ⟨hS, -, -⟩ := (invariant_iff s).mp hI
  have hSa : (arrived i s).Sound := sound_before_accept (s := { s with instant := s.instant + 1 }) i hS
  obtain ⟨u, hu, rfl⟩ := plainInstant_cases hp h
  refine ⟨u, rfl, ?_⟩
  have hma : (arrived i s).main = s.main := by simp [arrived]
  have hidle : presented i s = true → s.engine = .idle := fun hpr => by simp_all [presented]
  rcases accept_arrived_cases i s with ⟨hpr, e⟩ | ⟨hpr, e⟩ | ⟨hpr, e⟩
  · rw [e] at hu
    cases hm : s.main with
    | none =>
      obtain ⟨hb, hl⟩ := (mainOk_none (hma.trans hm)).mp hSa.1
      rw [runProcesses_none (hma.trans hm) hl] at hu
      cases hu
      exact .inl ⟨hpr, rfl, ((mainOk_none hm).mp hS.1).1, rfl⟩
    | some p =>
      obtain ⟨hb, hok⟩ := (mainOk_some hm).mp hS.1
      obtain ⟨-, hin, -⟩ := (processOk_iff _ _ _).mp hok
      rw [runProcesses_suspended _ i (hma.trans hm) (callee_ne_request_of_inRange hin),
        processed_eq _ i hSa (hma.trans hm)] at hu
      cases hu
      exact .inr (.inr (.inr ⟨hpr, hb, hSa, p, rfl, rfl⟩))
  · rw [e, runProcesses_none rfl rfl] at hu
    cases hu
    exact .inr (.inl ⟨hpr, hidle hpr, _, _, rfl⟩)
  · have hl : (arrived i s).labelProc = .idle := labelProc_of_idle hSa (by simpa [arrived] using hidle hpr)
    rw [e, runProcesses_of_no_label _ i (s := accepted i s) hl] at hu
    rcases runMain_dispatch_cases (s := accepted i s) rfl hu with hex | rfl
    · exact .inr (.inr (.inl ⟨hpr, hidle hpr, hex⟩))
    · exact .inr (.inl ⟨hpr, hidle hpr, _, _, rfl⟩)

end Sys2Proof.Machine
end

section
/-! Who writes `req`, `done`, `result`, `label` and the identity cache, and when (R23, R25, R35, R36, R39). -/

namespace Sys2Proof.Machine

/-! ### Steps 2 to 6 of an instant -/

theorem regsKept_arrived (i : Input) (s : State) : RegsKept s (arrived i s) := by
  constructor <;> simp [arrived]

@[simp] theorem arrived_req (i : Input) (s : State) : (arrived i s).req = s.req := by simp [arrived]

@[simp] theorem arrived_engine (i : Input) (s : State) : (arrived i s).engine = s.engine := by simp [arrived]

@[simp] theorem arrived_main (i : Input) (s : State) : (arrived i s).main = s.main := by simp [arrived]

@[simp] theorem arrived_labelProc (i : Input) (s : State) : (arrived i s).labelProc = s.labelProc := by simp [arrived]

theorem accepted_label (i : Input) (s : State) : (accepted i s).label = s.label := (regsKept_arrived i s).label

theorem accepted_result (i : Input) (s : State) : (accepted i s).result = s.result := (regsKept_arrived i s).result

theorem accepted_cache (i : Input) (s : State) : (accepted i s).cache = s.cache := (regsKept_arrived i s).cache

/-- No process writes `req`: an instant writes it at acceptance only (R35, R221). -/
theorem req_of_plainInstant {s t : State} {i : Input} (hp : plainInstant i s = true) (h : step (s.feed i) = .next t) :
    t.req = if presented i s then i.reqWord else s.req := by
  obtain ⟨u, hu, rfl⟩ := plainInstant_cases hp h
  have hbus : BusKept ((arrived i s).accept (instantEvents i s) i) u := by
    rcases runProcesses_busKept (instantEvents i s) i ((arrived i s).accept (instantEvents i s) i) with ⟨w, hw, hk⟩ | hf
    · cases hu.symm.trans hw
      exact hk
    · cases hu.symm.trans hf
  rw [State.notify_req, hbus.req]
  rcases accept_arrived_cases i s with ⟨hpr, e⟩ | ⟨hpr, e⟩ | ⟨hpr, e⟩
  · rw [e, hpr, arrived_req]
    rfl
  · rw [e, hpr]
    rfl
  · rw [e, hpr]
    rfl

/-- The call of an instruction waits, faults or completes (R222, R223). -/
theorem exec_advances {i : Instr} {s t : State} (hk : s.callers = []) (h : exec i s = .next t) : Advances s t := by
  rcases exec_cases hk h with g | rfl | ⟨-, rfl⟩
  · exact g.advances
  · exact .inr ⟨rfl, rfl⟩
  · exact .inl ⟨rfl, .inl rfl⟩

/-- The call of an instruction writes neither `label` nor `result` (R23, R36). -/
theorem exec_label_result {i : Instr} {s t : State} (hk : s.callers = []) (h : exec i s = .next t) :
    t.label = s.label ∧ t.result = s.result := by
  rcases exec_cases hk h with g | rfl | ⟨-, rfl⟩
  · exact ⟨g.label, g.result⟩
  · exact ⟨rfl, rfl⟩
  · exact ⟨rfl, rfl⟩

/-! ### What a suspended process writes in an instant -/

section resumed

variable {s : State} {p : Process} (e : Events)

theorem advances_resume (h : s.Sound) (hm : s.main = some p) (hb : s.engine = .busy) :
    Advances s (resume e p (s.runLabel e)) := by
  have hrun : ∀ t, Advances (s.runLabel e) t → Advances s t := fun t => by
    rw [runLabel_eq]
    exact id
  rcases resume_runLabel_cases e h hm with g | ⟨-, -, g⟩ | ⟨c, x, s', hl, -, g, eq⟩
  · exact hrun _ g.advances
  · exact .inl ⟨g.done, g.engine⟩
  · have he : s'.engine = (s.runLabel e).engine := by rw [hl.busy, runLabel_eq, hb]
    rw [eq]
    exact hrun _ (.of_regsKept g he (advances_returnTo p.callers x s'))

/-- A suspended process writes `result` only as the frame that does so ends its request (R36, R223). -/
theorem result_resume (h : s.Sound) (hm : s.main = some p) :
    (resume e p (s.runLabel e)).result = s.result ∨ (.writeResult ∈ p.callers ∧
      (resume e p (s.runLabel e)).engine = .idle ∧ (resume e p (s.runLabel e)).done = true) := by
  have hr : (s.runLabel e).result = s.result := by rw [runLabel_eq]
  rcases resume_runLabel_cases e h hm with g | ⟨-, -, g⟩ | ⟨c, x, s', -, hn, g, eq⟩
  · exact .inl (g.result.trans hr)
  · exact .inl g.result
  · rw [eq, ← hr, ← g.result]
    exact returnTo_result p.callers c x s' hn

/-- The label after an instant of a suspended process: None at the first edge of `start` or `shutdown`, else what its label
process has left (R23, R161). -/
theorem label_resume (h : s.Sound) (hm : s.main = some p) :
    (resume e p (s.runLabel e)).label = (s.runLabel e).label ∨
    ((p.point = .startPm ∨ p.point = .shutdownData) ∧ e.clkRise = true ∧
      (resume e p (s.runLabel e)).label = .none) := by
  rcases resume_runLabel_cases e h hm with g | ⟨hp, hc, g⟩ | ⟨c, x, s', -, -, g, eq⟩
  · exact .inl g.label
  · exact .inr ⟨hp, hc, g.label⟩
  · rw [eq, returnTo_label]
    exact .inl g.label

/-- A suspended process writes the cache only where an identity read returns (R39, R196, R197). -/
theorem cache_resume (h : s.Sound) (hm : s.main = some p) :
    (resume e p (s.runLabel e)).cache = s.cache ∨ CacheWritten p.callers s (resume e p (s.runLabel e)) := by
  have hr : (s.runLabel e).cache = s.cache := by rw [runLabel_eq]
  rcases resume_runLabel_cases e h hm with g | ⟨-, -, g⟩ | ⟨c, x, s', hl, hn, g, eq⟩
  · exact .inl (g.cache.trans hr)
  · exact .inl g.cache
  · have hc : s'.cache = s.cache := g.cache.trans hr
    rw [eq, ← hc]
    exact (returnTo_cache p.callers c x s' hl hn).imp id fun w => w.mono (fun _ => id) hc.symm

end resumed

/-! ### The instruction of a request word (R105, R106) -/

/-- A request word in numbers: its operation field (R105). -/
theorem requestOp_toNat (q : RequestWord) : (requestOp q).toNat = q.toNat / 2 ^ 24 % 32 := by
  simp [requestOp, Nat.shiftRight_eq_div_pow]

theorem requestOp_packRequest (op : BitVec 5) (c : Cmd) (d : Arg) : requestOp (packRequest op c d) = op := by
  unfold requestOp packRequest
  ext k hk
  simp only [BitVec.getElem_extractLsb', BitVec.getLsbD_append]
  interval_cases k <;> simp

/-- Whether an instruction writes `result`, by the operation field it is encoded with (R106, R223). -/
theorem writesResult_of_encode {i : Instr} {op : BitVec 5} {c : Cmd} {d : Arg}
    (h : encode i = .request (packRequest op c d)) : writesResult i = [0x15, 0x16, 0x1D, 0x1E].contains op.toNat := by
  unfold writesResult
  rw [h]
  dsimp only
  rw [← requestOp_toNat, requestOp_packRequest]

/-- A request word that decodes has the operation field of its instruction's encoding (R105, R106). -/
theorem encode_of_decodeRequest {q : RequestWord} {i : Instr} (h : decodeRequest q = .ok i) :
    requestRsv q = 0#3 ∧ ∃ op c d, encode i = .request (packRequest op c d) ∧ op.toNat = (requestOp q).toNat := by
  unfold decodeRequest at h
  split at h
  · cases h
  · rename_i hrsv
    refine ⟨Decidable.not_not.mp hrsv, ?_⟩
    unfold decodeOp at h
    split at h <;> cases h
    all_goals
      rename_i hop
      exact ⟨_, _, _, rfl, hop.symm⟩

/-- The words of the requests that write `result` (R36, R106, R223). -/
theorem op_of_writesResult {q : RequestWord} {i : Instr} (h : decodeRequest q = .ok i) (hw : writesResult i = true) :
    q.toNat / 2 ^ 24 ∈ [0x15, 0x16, 0x1D, 0x1E] := by
  obtain ⟨hrsv, op, c, d, he, hop⟩ := encode_of_decodeRequest h
  have hhigh : q.toNat / 2 ^ 29 = 0 := by
    have := congrArg BitVec.toNat hrsv
    have hq := q.isLt
    simp [requestRsv, Nat.shiftRight_eq_div_pow] at this
    omega
  have hdiv : q.toNat / 2 ^ 24 = (requestOp q).toNat := by
    rw [requestOp_toNat]
    omega
  rw [writesResult_of_encode he, List.contains_iff_mem, hop] at hw
  rwa [hdiv]

/-! ### The statements -/

/-- Settles O7: the tables, and the definition of the status port. -/
theorem statusCodes : Obligations.StatusCodes := by
  unfold Obligations.StatusCodes
  exact ⟨rfl, rfl, rfl, rfl, rfl, fun s => ⟨rfl, rfl, rfl, rfl, rfl⟩⟩

/-- Settles O56: the state after reset has no processes, an empty cache and no error. -/
theorem invariantsAtReset : Obligations.InvariantsAtReset := by
  unfold Obligations.InvariantsAtReset
  exact ⟨(invariant_iff _).mpr ⟨⟨rfl, rfl, by simp [State.reset], by simp [State.reset]⟩, rfl, by simp [State.reset]⟩, rfl⟩

/-- Settles O19: the processes keep `req` (`req_of_plainInstant`); without a request and without a process step 7 does
nothing. -/
theorem reqWrittenOnlyAtAcceptance : Obligations.ReqWrittenOnlyAtAcceptance := by
  unfold Obligations.ReqWrittenOnlyAtAcceptance
  refine ⟨rfl, fun s => rfl, fun s t i hp h => ⟨req_of_plainInstant hp h, fun hpr hm hl => ?_⟩⟩
  obtain ⟨u, hu, rfl⟩ := plainInstant_cases hp h
  rcases accept_arrived_cases i s with ⟨-, e⟩ | ⟨hpr', -⟩ | ⟨hpr', -⟩
  · rw [e, runProcesses_none (by rw [arrived_main, hm]) (by rw [arrived_labelProc, hl])] at hu
    cases hu
    rfl
  · cases hpr.symm.trans hpr'
  · cases hpr.symm.trans hpr'

/-- Settles O21: a process that runs in an instant waits, faults or completes (`Advances`), and only the last sets `done`;
an engine without a process keeps it. -/
theorem doneFlag : Obligations.DoneFlag := by
  unfold Obligations.DoneFlag
  refine ⟨rfl, fun s t i hI hp h => ?_⟩
  obtain ⟨⟨-, -, hdone, -⟩, -⟩ := (invariant_iff s).mp hI
  obtain ⟨u, rfl, hu⟩ := plainInstant_invariant_cases hI hp h
  rw [State.notify_done, State.notify_engine]
  rcases hu with ⟨hpr, -, hb, rfl⟩ | ⟨hpr, -, c, x, rfl⟩ | ⟨hpr, -, ins, -, he⟩ | ⟨-, hb, hS, p, hm, rfl⟩
  · rw [(regsKept_arrived i s).done, arrived_engine, hpr]
    cases hd : s.done with
    | false => simp [hb]
    | true => rw [hdone hd]; rfl
  · rfl
  · rw [(exec_advances rfl he).done_eq rfl rfl, hpr]
    simp
  · have hbusy : (arrived i s).engine = .busy := by rw [arrived_engine, hb]
    have hnot : (arrived i s).done = false := by
      rw [(regsKept_arrived i s).done]
      cases hd : s.done with
      | false => rfl
      | true => cases hb.symm.trans (hdone hd)
    rw [(advances_resume _ hS ((arrived_main i s).trans hm) hbusy).done_eq hnot hbusy, hb]
    simp

/-- Settles O22: the only write of `result` stands in a frame of a reading request, and it ends the request
(`result_resume`); that the frame is there says which request it is. -/
theorem resultWriters : Obligations.ResultWriters := by
  unfold Obligations.ResultWriters
  intro s t i hI hR hp h hne
  have hreq := req_of_plainInstant hp h
  obtain ⟨u, rfl, hu⟩ := plainInstant_invariant_cases hI hp h
  rcases hu with ⟨-, -, -, rfl⟩ | ⟨-, -, c, x, rfl⟩ | ⟨-, -, ins, -, he⟩ | ⟨hpr, -, hS, p, hm, rfl⟩
  · exact absurd (regsKept_arrived i s).result hne
  · exact absurd (accepted_result i s) hne
  · exact absurd ((exec_label_result rfl he).2.trans (accepted_result i s)) hne
  · rcases result_resume (instantEvents i s) hS ((arrived_main i s).trans hm) with g | ⟨hmem, hi, hd⟩
    · exact absurd (g.trans (regsKept_arrived i s).result) hne
    · refine ⟨hi, hd, ?_⟩
      rw [hreq, hpr]
      unfold requestInvariant at hR
      rw [hm] at hR
      dsimp only at hR
      split at hR
      · rename_i ins hdec
        simp only [callersFit, Bool.and_eq_true, Bool.or_eq_true, Bool.not_eq_true', List.contains_eq_mem,
          decide_eq_false_iff_not] at hR
        exact op_of_writesResult hdec (hR.2.resolve_left (not_not_intro hmem))
      · cases hR

/-- Settles O39: no call and no return writes `label`; a suspended process writes it at the two edges named, and its label
process at a clock rise (`label_resume`, `runLabel_eq`). -/
theorem labelWriters : Obligations.LabelWriters := by
  unfold Obligations.LabelWriters
  intro s t i hI hp h hne
  obtain ⟨u, rfl, hu⟩ := plainInstant_invariant_cases hI hp h
  rcases hu with ⟨-, -, -, rfl⟩ | ⟨-, -, c, x, rfl⟩ | ⟨-, -, ins, -, he⟩ | ⟨-, -, hS, p, hm, rfl⟩
  · exact absurd (regsKept_arrived i s).label hne
  · exact absurd (accepted_label i s) hne
  · exact absurd ((exec_label_result rfl he).1.trans (accepted_label i s)) hne
  · rcases label_resume (instantEvents i s) hS ((arrived_main i s).trans hm) with g | ⟨hpt, hc, g⟩
    · rw [State.notify_label, g] at hne ⊢
      have hlab : (arrived i s).label = s.label := (regsKept_arrived i s).label
      cases hw : s.labelProc.suspended with
      | false => exact absurd (by rw [runLabel_of_not_waiting (by rwa [arrived_labelProc]), hlab]) hne
      | true =>
        obtain ⟨v, hv⟩ := exists_waiting_of_suspended hw
        have hv' : (arrived i s).labelProc = .waiting v := (arrived_labelProc i s).trans hv
        cases hc : (instantEvents i s).clkRise with
        | false => exact absurd (by rw [runLabel_of_no_rise _ hc, hlab]) hne
        | true =>
          rw [runLabel_waiting hv', hc]
          exact ⟨hc, .inl hv⟩
    · refine ⟨hc, .inr ⟨g, p.callers, ?_⟩⟩
      obtain ⟨pt, k⟩ := p
      rcases hpt with rfl | rfl
      · exact .inl hm
      · exact .inr hm

/-- Settles O54: of the calls only SESSION's writes the cache (`exec_cases`), and of the returns only those of the two
identity reads (`returnTo_cache`), after which no fault can follow in the instant. -/
theorem cacheWriters : Obligations.CacheWriters := by
  unfold Obligations.CacheWriters
  intro s t i hI hp h hne
  have hreq := req_of_plainInstant hp h
  obtain ⟨u, rfl, hu⟩ := plainInstant_invariant_cases hI hp h
  rcases hu with ⟨-, -, -, rfl⟩ | ⟨-, -, c, x, rfl⟩ | ⟨hpr, -, ins, hd, he⟩ | ⟨-, -, hS, p, hm, rfl⟩
  · exact absurd (regsKept_arrived i s).cache hne
  · exact absurd (accepted_cache i s) hne
  · rcases exec_cases rfl he with g | rfl | ⟨rfl, rfl⟩
    · exact absurd (g.cache.trans (accepted_cache i s)) hne
    · exact absurd (accepted_cache i s) hne
    · refine ⟨by rw [callShutdown_eq]; exact nofun, .inr (.inr ⟨hpr, ?_, rfl⟩)⟩
      rw [hreq, hpr]
      exact hd
  · rcases cache_resume (instantEvents i s) hS ((arrived_main i s).trans hm) with g | g
    · exact absurd (g.trans (regsKept_arrived i s).cache) hne
    · obtain ⟨hf, ⟨hm1, hm2, w, hc⟩ | ⟨v, hm1, hm2, w, hc⟩⟩ := g.mono (fun _ => id) (regsKept_arrived i s).cache.symm
      · exact ⟨hf, .inl ⟨p, hm, hm1, hm2, w, hc⟩⟩
      · exact ⟨hf, .inr (.inl ⟨p, v, hm, hm1, hm2, w, hc⟩)⟩

end Sys2Proof.Machine
end

section
/-! A command and its read under the LOCKED schedule (R104, R124): the run for any callers, the instructions that are such a
transfer, and what they leave. -/

namespace Sys2Proof.Machine

/-! ### The run (R121, R124) -/

/-- A code and the sixteen samples after it, for any callers and any label process, from a tick of level `h` up to the
framing check: the label has been published, and the write-back of the last sample is pending. -/
theorem run_read {h : Bool} (v : WireFrame) (p : Payload) (c : List Frame) {f : WireFrame} {s : State} {is : List Input}
    (hs : s.levels h) (hg : h = false → s.gateOpen = false) (hsen : s.sen.settled = true) (hb : s.engine = .busy)
    (ha : answers is (11 + h.toNat) f) (hL : lockedFrom h is = true) (hlen : is.length = 42 + h.toNat) :
    ∃ w : State, Transferred .rx (s.labelProc.publishes s.label) s w ∧ w.labelProc = s.labelProc.ended ∧
      w.data.pend = some (f.getLsbD 15) ∧
      runOn is (callSendBits v 6 (.readFrame p :: c) s).notify = .next (returnTo (.checkFrame p :: c) f w).notify ∧
      sendsBits is (callSendBits v 6 (.readFrame p :: c) s).notify v 6 (1 + h.toNat) := by
  obtain ⟨as, bs, rfl, hlenA, hlenB, hLa, hLb⟩ := lockedFrom_split (n := 11 + h.toNat) (m := 31) hL (by omega)
  have hhigh : levelAfter h (11 + h.toNat) = true := by cases h <;> rfl
  rw [hhigh] at hLb
  obtain ⟨b, d, w, hb1, hg1, rfl, hcode, hbits⟩ := run_code v (.readFrame p :: c) hs hg hsen hb hLa hlenA
  have hans : answers bs 0 f := answers_append_right (is := as) (by rwa [hlenA])
  obtain ⟨b', d', -, -, hread⟩ := run_readFrame (.checkFrame p :: c)
    (s := ((s.published.later b).withData { cur := d, pend := some (v.getLsbD 5) }).setTs .tx) ⟨hb1, hb1⟩ hg1
    ((Line.settled_commit _).trans hsen) hb (published_not_suspended s) hans hLb hlenB
  refine ⟨_, ?_, rfl, rfl, (runOn_append_next hcode bs).trans hread, sendsBits_append_left (hbits rfl) (by omega) bs⟩
  exact ⟨Line.commit_commit _, Line.commit_commit _, Line.commit_commit _, rfl, rfl, rfl, rfl,
    ⟨rfl, rfl, rfl, rfl, rfl, rfl⟩⟩

/-! ### The instructions that are a command and a read (R91, R106) -/

/-- The label process that the call of a transfer forks: a verb's, or none (R161, R172). -/
def Transfer.process (tr : Transfer) : LabelProcess :=
  match tr.label with
  | none => .idle
  | some v => .waiting v

/-- What goes on after the framing check of the read of `i`: a verb's join, then the write of `result` (R161, R223). -/
def readers (i : Instr) (tr : Transfer) : List Frame :=
  (if tr.label.isSome then [.join] else []) ++ (if writesResult i then [.writeResult] else [])

theorem process_publishes (tr : Transfer) (l : CommandLabel) : tr.process.publishes l = tr.label.getD l := by
  unfold Transfer.process
  cases tr.label <;> rfl

theorem tail_of_wordTransfer {c : Code} {d : Arg} {l : Option CommandLabel} {tr : Transfer}
    (h : wordTransfer c d l = some tr) : ∃ f, tr.tail = .writes f := by
  unfold wordTransfer at h
  split at h <;> cases h
  exact ⟨_, rfl⟩

theorem tail_of_byteTransfer {c : Code} {d : Arg} {l : Option CommandLabel} {tr : Transfer}
    (h : byteTransfer c d l = some tr) : ∃ f, tr.tail = .writes f := by
  unfold byteTransfer at h
  split at h <;> cases h
  exact ⟨_, rfl⟩

/-- A raw request's transfer has a code in range (R139). -/
theorem rawTransfer_eq_some {c : Cmd} {t : Code → Option Transfer} {tr : Transfer} (h : rawTransfer c t = some tr) :
    c.toNat < 64 ∧ t (c.setWidth 6) = some tr := by
  unfold rawTransfer at h
  split at h
  · rename_i hc
    exact ⟨hc, by rwa [BitVec.ofNat_toNat] at h⟩
  · cases h

/-- The call of an instruction that is a command and a read (R91, R143, R144, R167, R168, R222). -/
theorem exec_of_reads {i : Instr} {s : State} {tr : Transfer} {p : Payload} (ht : transferOf i = some tr)
    (hp : tr.tail = .reads p) (hk : s.callers = []) (hl : s.labelProc = .idle) :
    exec i s = .next (callSendBits (tr.code.setWidth 16) 6 (.readFrame p :: readers i tr)
      (s.setLabelProc tr.process)) := by
  have hself : s.setLabelProc .idle = s := by rw [← hl]; rfl
  have hno : ∀ f, tr.tail ≠ .writes f := fun f => by rw [hp]; exact nofun
  have hword : ∀ {c d l}, wordTransfer c d l ≠ some tr := fun h =>
    (tail_of_wordTransfer h).elim fun f => hno f
  have hbyte : ∀ {c d l}, byteTransfer c d l ≠ some tr := fun h =>
    (tail_of_byteTransfer h).elim fun f => hno f
  cases i
  case readProgram =>
    cases ht; cases hp
    show Host.Outcome.next (callReadProgram (.writeResult :: s.callers) s) = _
    rw [hk]
    rfl
  case readData =>
    cases ht; cases hp
    show Host.Outcome.next (callReadData (.writeResult :: s.callers) s) = _
    rw [hk]
    rfl
  case sendCmdRead c =>
    have hw : writesResult (.sendCmdRead c) = true :=
      (writesResult_of_encode (op := 0x1D#5) (c := c) (d := 0#16) rfl).trans rfl
    rw [transferOf] at ht
    obtain ⟨hc, ht⟩ := rawTransfer_eq_some ht
    cases ht; cases hp
    rcases callSendCommandAndReadData_cases c (.writeResult :: s.callers) s with ⟨hc', -⟩ | ⟨-, e⟩
    · omega
    · rw [exec, execSendCmdRead, e, hk, readers, hw, Transfer.process, hself]
      rfl
  case sendCmdReadByte c =>
    have hw : writesResult (.sendCmdReadByte c) = true :=
      (writesResult_of_encode (op := 0x1E#5) (c := c) (d := 0#16) rfl).trans rfl
    rw [transferOf] at ht
    obtain ⟨hc, ht⟩ := rawTransfer_eq_some ht
    cases ht; cases hp
    rcases callSendCommandAndReadByteData_cases c (.writeResult :: s.callers) s with ⟨hc', -⟩ | ⟨-, e⟩
    · omega
    · rw [exec, execSendCmdReadByte, e, hk, readers, hw, Transfer.process, hself]
      rfl
  case wireReadDataFromProgramMemory x =>
    have hcode : ∀ y, codeWithX 0x04 y = CommandCode.readDataFromProgramMemory.withX y := by decide
    cases ht; cases hp
    rw [exec, execWireReadDataFromProgramMemory, hk, Transfer.process, hself, hcode]
    rfl
  case wireReadDataFromDataMemory x =>
    have hcode : ∀ y, codeWithX 0x05 y = CommandCode.readDataFromDataMemory.withX y := by decide
    cases ht; cases hp
    rw [exec, execWireReadDataFromDataMemory, hk, Transfer.process, hself, hcode]
    rfl
  case loadConfig d => exact absurd ht hword
  case loadProgram d => exact absurd ht hword
  case loadData d => exact absurd ht hbyte
  case sendCmd c =>
    rw [transferOf] at ht
    cases (rawTransfer_eq_some ht).2
    cases hp
  case sendCmdData c d =>
    rw [transferOf] at ht
    exact absurd (rawTransfer_eq_some ht).2 hword
  case sendCmdByte c d =>
    rw [transferOf] at ht
    exact absurd (rawTransfer_eq_some ht).2 hbyte
  all_goals cases ht <;> cases hp

/-! ### The return (R104, R143, R161, R223) -/

/-- The payload of a read frame as `result` takes it, in numbers (R104). -/
theorem setWidth_payloadOf (p : Payload) (f : WireFrame) : (payloadOf p f).setWidth 14 = readValue p f := by
  cases p with
  | word => exact setWidth_payloadOf_word f
  | byte =>
    apply BitVec.eq_of_toNat_eq
    simp [payloadOf, frameByte, readValue, Nat.shiftRight_eq_div_pow]

/-- The end of a read whose frame was well formed: the label process is joined, `result` written if the request writes it,
and the request completes (R161, R223). -/
theorem returnTo_readers (i : Instr) (tr : Transfer) (x : WireFrame) {w : State}
    (hl : w.labelProc = tr.process.ended) :
    returnTo (readers i tr) x w =
      { w with labelProc := .idle, result := if writesResult i then x.setWidth 14 else w.result,
               engine := .idle, done := true, main := none } := by
  have hjoin : returnTo (readers i tr) x w =
      returnTo (if writesResult i then [.writeResult] else []) x (w.setLabelProc .idle) := by
    unfold readers
    unfold Transfer.process at hl
    cases ht : tr.label with
    | none =>
      rw [ht] at hl
      rw [show w.setLabelProc .idle = w by rw [← show w.labelProc = .idle from hl]; rfl]
      rfl
    | some v =>
      rw [ht] at hl
      refine returnTo_join hl fun d c e => ?_
      split at e <;> cases e
  rw [hjoin]
  cases writesResult i <;> rfl

/-- Settles O33: the run up to the framing check (`run_read`), then the return to what follows it (`returnTo_readers`). -/
theorem readTransfersComplete : Obligations.ReadTransfersComplete := by
  unfold Obligations.ReadTransfersComplete
  intro i s tr p ht hp ⟨hb, _, hk, hl, hclk⟩ ⟨hsen, hraw⟩
  refine ⟨_, exec_of_reads ht hp hk hl, rfl, fun is f hL hlen ha hf => ?_⟩
  obtain ⟨w, hw, hwl, hdata, hrun, hsends⟩ := run_read (h := true) (s := s.setLabelProc tr.process) (tr.code.setWidth 16) p
    (readers i tr) ⟨hclk, hraw⟩ nofun (by rw [State.setLabelProc_sen, hsen]; rfl) hb ha hL hlen
  obtain ⟨hcache, hresult, herr, hinfo, hreq, hparams⟩ := hw.registers
  refine ⟨hsends, _, hrun, ?_⟩
  rw [returnTo_checkFrame w hf, returnTo_readers i tr _ hwl, setWidth_payloadOf]
  have hwsen : w.sen = { cur := true, pend := none } := by
    rw [hw.sen, State.setLabelProc_sen, hsen, Line.commit_of_none]
  have hwlabel : w.label = tr.label.getD s.label := hw.label.trans (process_publishes tr s.label)
  have hwresult : (if writesResult i then readValue p f else w.result) =
      if writesResult i then readValue p f else s.result := by rw [hresult]; rfl
  exact ⟨⟨rfl, rfl, rfl, rfl⟩, hdata.trans (congrArg some hf.2), hwsen, hw.ts, hwlabel, hwresult, hw.pm, hw.pwr, hw.seq,
    hcache, herr, hinfo, hreq, hparams⟩

end Sys2Proof.Machine
end

section
/-! The instant from every state (R60 to R65, R68, R74, R221): what its steps 2 to 6 leave, what its processes keep, and the
step that runs an accepted request. -/

namespace Sys2Proof.Machine

/-! ### No edge, and steps 2 to 6 -/

/-- The edges of an instant do not depend on how many inputs have been consumed (R60). -/
theorem levelEvents_count (s : State) (n : Nat) (i : Input) :
    levelEvents { s with instant := n } i = levelEvents s i := rfl

/-- A step on an input without an edge only counts it (R60). -/
theorem step_of_no_edge {s : State} {i : Input} (h : (levelEvents s i).any = false) :
    step (s.feed i) = .next { s with instant := s.instant + 1 } := by
  rw [step_feed, instant, levelEvents_count, h]
  rfl

/-- A step at an edge with a reset applies it and nothing else (R227, R280). -/
theorem step_of_reset {s : State} {i : Input} (he : (levelEvents s i).any = true) (hr : i.rst = true) :
    step (s.feed i) = .next (({ s with instant := s.instant + 1 } : State).blockReset.setLevels i) := by
  rw [step_feed, instant, levelEvents_count, he, hr]
  rfl

/-- At a plain instant a step is step 7 on what acceptance leaves, and then the notification (R65). -/
theorem step_plain {s : State} {i : Input} (hp : plainInstant i s = true) :
    step (s.feed i) =
      afterOutcome (runProcesses (instantEvents i s) i ((arrived i s).accept (instantEvents i s) i)) State.notify := by
  obtain ⟨he, hr⟩ := Bool.and_eq_true_iff.mp hp
  rw [Bool.not_eq_true'] at hr
  rw [step_feed, instant, levelEvents_count, he, hr]
  rfl

@[simp] theorem arrived_pm (i : Input) (s : State) : (arrived i s).pm = s.pm.commit := by simp [arrived]

@[simp] theorem arrived_pwr (i : Input) (s : State) : (arrived i s).pwr = s.pwr.commit := by simp [arrived]

@[simp] theorem arrived_data (i : Input) (s : State) : (arrived i s).data = s.data.commit := by simp [arrived]

@[simp] theorem arrived_sen (i : Input) (s : State) : (arrived i s).sen = s.sen.commit := by simp [arrived]

@[simp] theorem arrived_seq (i : Input) (s : State) : (arrived i s).seq = s.seq := by simp [arrived]

@[simp] theorem arrived_errCode (i : Input) (s : State) : (arrived i s).errCode = s.errCode := by simp [arrived]

@[simp] theorem arrived_errInfo (i : Input) (s : State) : (arrived i s).errInfo = s.errInfo := by simp [arrived]

@[simp] theorem arrived_lastComp (i : Input) (s : State) : (arrived i s).lastComp = s.lastComp := by simp [arrived]

@[simp] theorem arrived_clk (i : Input) (s : State) : (arrived i s).clk = i.clk := by simp [arrived]

@[simp] theorem arrived_rawStb (i : Input) (s : State) : (arrived i s).rawStb = rawLevel s.params i := by simp [arrived]

@[simp] theorem arrived_lineIn (i : Input) (s : State) : (arrived i s).lineIn = i.lineIn := by simp [arrived]

@[simp] theorem arrived_params (i : Input) (s : State) : (arrived i s).params = s.params := by simp [arrived]

@[simp] theorem arrived_script (i : Input) (s : State) : (arrived i s).script = s.script := by simp [arrived]

@[simp] theorem arrived_instant (i : Input) (s : State) : (arrived i s).instant = s.instant + 1 := by simp [arrived]

/-- The force of an instant acts on `ts` as it acts before the instant (R226). -/
@[simp] theorem arrived_ts (i : Input) (s : State) : (arrived i s).ts = forcedTs i s := by
  rw [forcedTs_eq_forceOn]
  exact forcedTs_eq_forceOn i ((({ s with instant := s.instant + 1 } : State).commit.setLevels i).gate (levelEvents s i))

/-- The gate register after step 4, by the raw strobe's edge and the committed `sen` (R61). -/
@[simp] theorem arrived_gateOpen (i : Input) (s : State) :
    (arrived i s).gateOpen =
      if !s.rawStb && rawLevel s.params i && s.sen.settled && !s.gateOpen then true
      else if s.rawStb && !rawLevel s.params i && s.gateOpen then false else s.gateOpen := by
  simp [arrived, gateRise, gateFall, levelEvents, Line.settled]

/-- The strobe events of an instant (R61). -/
theorem instantEvents_stbRise (i : Input) (s : State) :
    (instantEvents i s).stbRise = (!s.rawStb && rawLevel s.params i && s.sen.settled && !s.gateOpen) := by
  simp [instantEvents, gateEvents, gateRise, levelEvents, Line.settled]

theorem instantEvents_stbFall (i : Input) (s : State) :
    (instantEvents i s).stbFall = (s.rawStb && !rawLevel s.params i && s.gateOpen) := rfl

/-- What every instant without a reset leaves of the bus: what step 6 brought to the processes, but for `req` (R63, R65). -/
theorem busKept_of_plainInstant {s t : State} {i : Input} (hp : plainInstant i s = true)
    (h : step (s.feed i) = .next t) : ∃ u, t = u.notify ∧ BusKept { arrived i s with req := u.req } u := by
  obtain ⟨u, hu, rfl⟩ := plainInstant_cases hp h
  refine ⟨u, rfl, ?_⟩
  have hbus : BusKept ((arrived i s).accept (instantEvents i s) i) u := by
    rcases runProcesses_busKept (instantEvents i s) i ((arrived i s).accept (instantEvents i s) i) with ⟨w, hw, hk⟩ | hf
    · cases hu.symm.trans hw
      exact hk
    · cases hu.symm.trans hf
  have hacc : BusKept { arrived i s with req := u.req } { (arrived i s).accept (instantEvents i s) i with req := u.req } := by
    rcases accept_arrived_cases i s with ⟨-, e⟩ | ⟨-, e⟩ | ⟨-, e⟩ <;> rw [e] <;> constructor <;> rfl
  exact hacc.trans { hbus with req := rfl }

/-- The composite in numbers (R74). -/
theorem composite_eq_ofNat (s : State) :
    s.composite = BitVec.ofNat 4 (8 * s.pm.cur.toNat + 4 * s.pwr.cur.toNat + 2 * s.data.cur.toNat + s.gateOpen.toNat) := by
  have h : ∀ a b c d : Bool, BitVec.ofBool a ++ BitVec.ofBool b ++ BitVec.ofBool c ++ BitVec.ofBool d =
      BitVec.ofNat 4 (8 * a.toNat + 4 * b.toNat + 2 * c.toNat + d.toNat) := by decide
  exact h _ _ _ _

/-! ### Acceptance and the order of the processes -/

/-- A word that decodes is no illegal request (R108). -/
theorem requestIllegal_of_decode {q : RequestWord} {ins : Instr} (h : decodeRequest q = .ok ins) :
    requestIllegal q = false := by
  obtain ⟨hrsv, -⟩ := encode_of_decodeRequest h
  have hnum : requestOp q = BitVec.ofNat 5 (requestOp q).toNat := by simp
  unfold requestIllegal
  rw [hrsv]
  unfold decodeRequest at h
  rw [if_neg (not_not_intro hrsv), decodeOp] at h
  split at h <;> cases h
  all_goals
    rename_i hop
    rw [hnum, hop]
    rfl

/-- A legal request that is presented is accepted (R221). -/
theorem accept_arrived_of_legal {s : State} {i : Input} (hp : presented i s = true)
    (hq : requestIllegal i.reqWord = false) : (arrived i s).accept (instantEvents i s) i = accepted i s := by
  rcases accept_cases (instantEvents i s) i (arrived i s) with ⟨h, -⟩ | ⟨-, h, -⟩ | ⟨-, -, h⟩
  · rw [acceptable_arrived, hp] at h
    cases h
  · cases hq.symm.trans h
  · exact h

/-- A request is presented at a clock rise, which is an edge (R60, R221). -/
theorem plainInstant_of_presented {s : State} {i : Input} (hp : presented i s = true) (hr : i.rst = false) :
    plainInstant i s = true := by
  simp only [presented, Bool.and_eq_true] at hp
  obtain ⟨⟨hclk, -⟩, -⟩ := hp
  simp [plainInstant, Events.any, levelEvents, hclk, hr]

/-- A process about to dispatch a word that decodes calls its instruction (R222). -/
theorem runMain_dispatch {e : Events} {s : State} {k : List Frame} {ins : Instr}
    (hm : s.main = some { point := .dispatch, callers := k }) (hd : decodeRequest s.req = .ok ins) :
    runMain e s = exec ins s := by
  unfold runMain
  rw [hm]
  dsimp only
  rw [hd]

/-- In a sound state step 7 does not depend on the order that the input chooses (R68). -/
theorem runProcesses_order {s : State} (e : Events) (i j : Input) (h : s.Sound) :
    runProcesses e i s = runProcesses e j s := by
  cases hm : s.main with
  | none =>
    obtain ⟨-, hl⟩ := (mainOk_none hm).mp h.1
    rw [runProcesses_none hm hl, runProcesses_none hm hl]
  | some p =>
    obtain ⟨-, hp⟩ := (mainOk_some hm).mp h.1
    obtain ⟨-, hin, -⟩ := (processOk_iff _ _ _).mp hp
    have hc := callee_ne_request_of_inRange hin
    rw [runProcesses_suspended e i hm hc, runProcesses_suspended e j hm hc, processed_eq e i h hm, processed_eq e j h hm]

/-- Whatever acceptance leaves of a sound state, step 7 does not depend on the order (R68, R221). -/
theorem runProcesses_accept_order {s : State} (e : Events) (i j : Input) (h : s.Sound) :
    runProcesses e i (s.accept e i) = runProcesses e j (s.accept e i) := by
  rcases accept_sound e i h with ha | ⟨hl, -⟩
  · exact runProcesses_order e i j ha
  · have hidle : (s.accept e i).labelProc = .idle := by simpa using hl.label
    rw [runProcesses_of_no_label e i hidle, runProcesses_of_no_label e j hidle]

/-! ### The statements -/

/-- Settles O10: two equal levels are no edge. -/
theorem noEdgeNoChange : Obligations.NoEdgeNoChange := by
  unfold Obligations.NoEdgeNoChange
  intro s i hc hr
  exact step_of_no_edge (by simp [levelEvents, Events.any, hc, hr])

/-- Settles O11: a reset instant writes the levels after the reset; any other writes them in step 3, and the processes keep
them (`busKept_of_plainInstant`). -/
theorem inputsTracked : Obligations.InputsTracked := by
  unfold Obligations.InputsTracked
  intro s t i he h
  cases hr : i.rst with
  | true =>
    rw [step_feed] at h
    rcases instant_cases h with ⟨g, -⟩ | ⟨-, -, rfl⟩ | ⟨-, g, -⟩
    · cases he.symm.trans g
    · exact ⟨rfl, rfl, rfl, rfl, rfl, rfl⟩
    · cases hr.symm.trans g
  | false =>
    obtain ⟨u, rfl, hu⟩ := busKept_of_plainInstant (by simp [plainInstant, he, hr]) h
    exact ⟨hu.clk.trans (arrived_clk i s), hu.rawStb.trans (arrived_rawStb i s), hu.lineIn.trans (arrived_lineIn i s),
      hu.params.trans (arrived_params i s), hu.script.trans (arrived_script i s), hu.instant.trans (arrived_instant i s)⟩

/-- Settles O12: the gate is step 4's, and the processes keep it. -/
theorem strobeGate : Obligations.StrobeGate := by
  unfold Obligations.StrobeGate
  intro s t i hp h
  obtain ⟨u, rfl, hu⟩ := busKept_of_plainInstant hp h
  exact ⟨instantEvents_stbRise i s, instantEvents_stbFall i s, hu.gateOpen.trans (arrived_gateOpen i s)⟩

/-- Settles O13: step 2 commits the lines, and no process writes a current value. -/
theorem commitTakesPending : Obligations.CommitTakesPending := by
  unfold Obligations.CommitTakesPending
  intro s t i hp h
  obtain ⟨u, rfl, hu⟩ := busKept_of_plainInstant hp h
  have settled : ∀ {l m : Line}, l = m.commit → l.cur = m.settled := fun h => h ▸ Line.commit_cur_settled _
  exact ⟨hu.pm.trans (settled (arrived_pm i s)), hu.pwr.trans (settled (arrived_pwr i s)),
    hu.data.trans (settled (arrived_data i s)), hu.sen.trans (settled (arrived_sen i s))⟩

/-- Settles O14: step 8 compares the composite with the one last reported, which no step before it writes. -/
theorem notificationOnChange : Obligations.NotificationOnChange := by
  unfold Obligations.NotificationOnChange
  intro s t i hp h
  obtain ⟨u, rfl, hu⟩ := busKept_of_plainInstant hp h
  have hlast : u.lastComp = s.lastComp := hu.lastComp.trans (arrived_lastComp i s)
  refine ⟨composite_eq_ofNat u, ?_, fun _ => rfl⟩
  rw [State.notify_compValid, State.notify_lastComp, bne_iff_ne, hlast]

/-- Settles O16: the word is legal because it decodes, so it is accepted, and without a label process step 7 is the
dispatch. -/
theorem stepRunsAcceptedRequest : Obligations.StepRunsAcceptedRequest := by
  unfold Obligations.StepRunsAcceptedRequest
  intro s i ins hr hp hl hd
  have hidle : (accepted i s).labelProc = .idle := (arrived_labelProc i s).trans hl
  rw [step_plain (plainInstant_of_presented hp hr), accept_arrived_of_legal hp (requestIllegal_of_decode hd),
    runProcesses_of_no_label _ i hidle,
    runMain_dispatch (s := accepted i s) rfl hd]

/-- Settles O60: only step 7 looks at the order, and in a state that meets the invariant it makes no difference there
(`runProcesses_accept_order`). -/
theorem processOrderIrrelevant : Obligations.ProcessOrderIrrelevant := by
  unfold Obligations.ProcessOrderIrrelevant
  intro s t i b hI h
  cases hp : plainInstant i s with
  | true =>
    obtain ⟨hS, -⟩ := (invariant_iff s).mp hI
    have hSa : (arrived i s).Sound := sound_before_accept (s := { s with instant := s.instant + 1 }) i hS
    have hb : plainInstant { i with mainFirst := b } s = true := hp
    rw [step_plain hp, runProcesses_accept_order _ i { i with mainFirst := b } hSa] at h
    rw [step_plain hb]
    exact h
  | false =>
    cases he : (levelEvents s i).any with
    | false =>
      rw [step_of_no_edge he] at h
      exact (step_of_no_edge (i := { i with mainFirst := b }) he).trans h
    | true =>
      have hr : i.rst = true := by simpa [plainInstant, he] using hp
      rw [step_of_reset he hr] at h
      exact (step_of_reset (i := { i with mainFirst := b }) he hr).trans h

end Sys2Proof.Machine
end

section
/-! One instant of a transfer and of a join, whoever called it and whatever its label process does (R67, R68, R70, R120,
R123). -/

namespace Sys2Proof.Machine

/-! ### The end of an instant -/

/-- A main process that does the same before and after its label process, and does not stop at a join: the order makes no
difference (R68). -/
theorem processed_of_commutes {e : Events} {i : Input} {p : Process} {s t : State} (hfirst : resume e p s = t)
    (hafter : resume e p (s.runLabel e) = t.runLabel e) (hl : t.labelProc = s.labelProc)
    (hj : ∀ q, t.main = some q → q.point.callee ≠ .verb) : processed e i p s = t.runLabel e := by
  have hjoin : (t.runLabel e).resumeJoin = t.runLabel e := by
    unfold State.resumeJoin
    rw [runLabel_main]
    split
    · rename_i x k hm
      exact absurd rfl (hj _ hm)
    · rfl
  have hlabel : labelAfterMain e s t = t.runLabel e := by
    cases hs : s.labelProc.suspended with
    | true => rw [labelAfterMain_live hs (by rw [hl]; exact ((suspended_iff _).mp hs).1), hjoin]
    | false => rw [labelAfterMain_of_not_waiting hs, runLabel_of_not_waiting (hl ▸ hs)]
  unfold processed
  rw [hfirst, hafter, hlabel, ite_self]

/-- `sendBits` goes on at a gated strobe rise (R67, R120). -/
theorem resume_sendBit {e : Events} (v : WireFrame) (n k : Nat) (c : List Frame) (s : State) (h : e.stbRise = true) :
    resume e { point := .sendBit v n k, callers := c } s = (sendBitEdge v n k c s).andThen (returnTo c) := if_pos h

/-- `readBits` goes on at a gated strobe fall (R67, R123). -/
theorem resume_readBit {e : Events} (n k : Nat) (r : WireFrame) (c : List Frame) (s : State) (h : e.stbFall = true) :
    resume e { point := .readBit n k r, callers := c } s = (readBitEdge n k r c s).andThen (returnTo c) := if_pos h

/-- The end of an instant in which the main process of `s` has left the data line at `d`, itself at `m`, and `engine_state`
and `done` as given, its label process having run too (R65, R68). -/
def instantEnd (i : Input) (d : Line) (m : Option Process) (g : EngineState) (b : Bool) (s : State) : State :=
  (({ arrived i s with data := d, main := m, engine := g, done := b } : State).runLabel (instantEvents i s)).notify

section instantEnd

variable (i : Input) (d : Line) (m : Option Process) (g : EngineState) (b : Bool) (s : State)

@[simp] theorem instantEnd_data : (instantEnd i d m g b s).data = d := by simp [instantEnd, runLabel_eq]

@[simp] theorem instantEnd_main : (instantEnd i d m g b s).main = m := by simp [instantEnd]

@[simp] theorem instantEnd_engine : (instantEnd i d m g b s).engine = g := by simp [instantEnd, runLabel_eq]

@[simp] theorem instantEnd_done : (instantEnd i d m g b s).done = b := by simp [instantEnd, runLabel_eq]

@[simp] theorem instantEnd_sen : (instantEnd i d m g b s).sen = s.sen.commit := by simp [instantEnd, runLabel_eq]

@[simp] theorem instantEnd_ts : (instantEnd i d m g b s).ts = forcedTs i s := by simp [instantEnd]

@[simp] theorem instantEnd_gateOpen : (instantEnd i d m g b s).gateOpen = (arrived i s).gateOpen := by
  simp only [instantEnd, runLabel_eq, State.notify_gateOpen]

@[simp] theorem instantEnd_rawStb : (instantEnd i d m g b s).rawStb = rawLevel s.params i := by
  simp [instantEnd, runLabel_eq]

@[simp] theorem instantEnd_result : (instantEnd i d m g b s).result = s.result := by
  simpa [instantEnd, runLabel_eq] using (regsKept_arrived i s).result

/-- Everything else that moving bits leaves alone (R64). -/
theorem undisturbed_instantEnd : undisturbed s (instantEnd i d m g b s) := by
  simpa [undisturbed, instantEnd, runLabel_eq] using (regsKept_arrived i s).cache

/-- Without a label process none is there at the end, and `label` stays (R69). -/
theorem label_instantEnd (h : s.labelProc = .idle) :
    (instantEnd i d m g b s).labelProc = .idle ∧ (instantEnd i d m g b s).label = s.label := by
  unfold instantEnd
  rw [runLabel_of_not_waiting]
  · exact ⟨(arrived_labelProc i s).trans h, (regsKept_arrived i s).label⟩
  · show (arrived i s).labelProc.suspended = false
    rw [arrived_labelProc, h]
    rfl

end instantEnd

/-- A commit, and a write after it (R63). -/
theorem Line.write_commit (l : Line) (v : Bool) : l.commit.write v = { cur := l.settled, pend := some v } := by
  rw [Line.commit_settled]
  rfl

/-! ### Transfers (R120, R123) -/

section transfer

variable {s : State} {i : Input} (hp : plainInstant i s = true) (hb : s.engine = .busy)
include hp hb

/-- A transfer whose edge has not come waits (R67). -/
theorem step_transfer_waits {p : Process} (hm : s.main = some p)
    (hc : p.point.callee = .sendBits ∧ (instantEvents i s).stbRise = false ∨
      p.point.callee = .readBits ∧ (instantEvents i s).stbFall = false) :
    step (s.feed i) = .next (instantEnd i s.data.commit s.main .busy s.done s) := by
  have hreq : p.point.callee ≠ .request ∧ p.point.callee ≠ .verb := by
    rcases hc with ⟨h, -⟩ | ⟨h, -⟩ <;> rw [h] <;> decide
  have hrel : ∀ t, p.point.released (instantEvents i s) t = false := by
    obtain ⟨pt, k⟩ := p
    intro t
    rcases hc with ⟨h, he⟩ | ⟨h, he⟩ <;> cases pt <;> first | exact he | cases h
  rw [step_suspended hp hb hm hreq.1, processed_of_not_released ((arrived_main i s).trans hm) hreq.2 hrel]
  unfold instantEnd
  rw [← hb, ← arrived_data i s, ← arrived_main i s, ← arrived_engine i s, ← (regsKept_arrived i s).done]

/-- A transfer whose edge has come, and which returns into no caller: `data` takes the bit `v`, and the main process, the
engine and `done` become `m`, `g` and `b`. -/
theorem step_transfer_moves {p : Process} {v : Bool} {m : Option Process} {g : EngineState} {b : Bool}
    (hm : s.main = some p) (hc : p.point.callee ≠ .request) (hv : ∀ q, m = some q → q.point.callee ≠ .verb)
    (hres : ∀ t : State, t.engine = .busy → t.done = s.done → t.lineIn = i.lineIn →
      resume (instantEvents i s) p t = { t with data := t.data.write v, main := m, engine := g, done := b }) :
    step (s.feed i) = .next (instantEnd i { cur := s.data.settled, pend := some v } m g b s) := by
  have hfirst := hres (arrived i s) ((arrived_engine i s).trans hb) (regsKept_arrived i s).done (arrived_lineIn i s)
  have hafter := hres ((arrived i s).runLabel (instantEvents i s))
    (by rw [runLabel_eq]; exact (arrived_engine i s).trans hb) (by rw [runLabel_eq]; exact (regsKept_arrived i s).done)
    ((runLabel_lineIn _ _).trans (arrived_lineIn i s))
  rw [step_suspended hp hb hm hc, processed_of_commutes hfirst (by rw [hafter, runLabel_eq, runLabel_eq]) rfl hv,
    arrived_data, Line.write_commit]
  rfl

/-- A bit of `sendBits` that is not the last goes out (R72, R120). -/
theorem step_sendBit_more {v : WireFrame} {n k : Nat} {c : List Frame}
    (hm : s.main = some { point := .sendBit v n k, callers := c }) (he : (instantEvents i s).stbRise = true)
    (hk : k + 1 < n) :
    step (s.feed i) = .next (instantEnd i { cur := s.data.settled, pend := some (v.getLsbD k) }
      (some { point := .sendBit v n (k + 1), callers := c }) .busy s.done s) := by
  refine step_transfer_moves hp hb hm (by simp [Point.callee]) (by simp [Point.callee]) fun t hg hd _ => ?_
  rw [resume_sendBit _ _ _ _ t he, sendBitEdge_more c t hk, ← hg, ← hd]
  rfl

/-- The last bit of a bare `sendBits` goes out, and the request completes (R120, R223). -/
theorem step_sendBit_last {v : WireFrame} {n k : Nat}
    (hm : s.main = some { point := .sendBit v n k, callers := [] }) (he : (instantEvents i s).stbRise = true)
    (hk : n ≤ k + 1) :
    step (s.feed i) = .next (instantEnd i { cur := s.data.settled, pend := some (v.getLsbD k) } none .idle true s) := by
  refine step_transfer_moves hp hb hm (by simp [Point.callee]) nofun fun t _ _ _ => ?_
  rw [resume_sendBit _ _ _ _ t he, sendBitEdge_last [] t hk]
  rfl

/-- A sample of `readBits` that is not the last is taken and written back (R66, R123). -/
theorem step_readBit_more {r : WireFrame} {n k : Nat} {c : List Frame}
    (hm : s.main = some { point := .readBit n k r, callers := c }) (he : (instantEvents i s).stbFall = true)
    (hk : k + 1 < n) :
    step (s.feed i) = .next (instantEnd i { cur := s.data.settled, pend := some i.lineIn }
      (some { point := .readBit n (k + 1) (setSample r k i.lineIn), callers := c }) .busy s.done s) := by
  refine step_transfer_moves hp hb hm (by simp [Point.callee]) (by simp [Point.callee]) fun t hg hd hline => ?_
  rw [resume_readBit _ _ _ _ t he, readBitEdge_more r c t hk, ← hg, ← hd, ← hline]
  rfl

end transfer

/-- Settles O23: what the instant leaves of the main process and `data` (`step_transfer_waits`, `step_sendBit_more`,
`step_sendBit_last`), and what it leaves alone. -/
theorem sendBitsInstant : Obligations.SendBitsInstant := by
  unfold Obligations.SendBitsInstant
  intro s i v n k c hp hb hm
  refine ⟨fun he => ?_, fun he hk => ?_, fun he hk hc => ?_⟩
  · exact ⟨_, step_transfer_waits hp hb hm (.inl ⟨rfl, he⟩), by simp [undisturbed_instantEnd]⟩
  · exact ⟨_, step_sendBit_more hp hb hm he hk, by simp [undisturbed_instantEnd]⟩
  · subst hc
    exact ⟨_, step_sendBit_last hp hb hm he hk, by simp [undisturbed_instantEnd]⟩

/-- Settles O24: the instant waits (`step_transfer_waits`) or takes a sample (`step_readBit_more`), which is one bit of the
accumulator (`setSample_getLsbD`). -/
theorem readBitsInstant : Obligations.ReadBitsInstant := by
  unfold Obligations.ReadBitsInstant
  intro s i r n k c hp hb hm
  refine ⟨fun he => ?_, fun he hk => ?_⟩
  · exact ⟨_, step_transfer_waits hp hb hm (.inr ⟨rfl, he⟩), by simp [undisturbed_instantEnd]⟩
  · exact ⟨_, _, step_readBit_more hp hb hm he hk, instantEnd_main .., fun j hj => setSample_getLsbD r k j i.lineIn hj,
      by simp [undisturbed_instantEnd]⟩

/-! ### The stall (R122, R262) -/

/-- The process `p` is in a transfer with the strobe gated off: `sen` is 0 or about to be, and no pulse is open (R61). -/
structure Stalled (p : Process) (s : State) : Prop where
  busy : s.engine = .busy
  main : s.main = some p
  transfer : p.point.callee = .sendBits ∨ p.point.callee = .readBits
  gate : s.gateOpen = false
  sen : s.sen.settled = false

/-- What a stalled engine leaves alone. -/
structure StallKept (s u : State) : Prop where
  done : u.done = s.done
  errCode : u.errCode = s.errCode
  errInfo : u.errInfo = s.errInfo
  result : u.result = s.result
  seq : u.seq = s.seq
  cache : u.cache = s.cache
  req : u.req = s.req
  lines : sameLines s u

theorem sameLines_trans {s t u : State} (h : sameLines s t) (g : sameLines t u) : sameLines s u := by
  rcases h with ⟨h1, h2, h3, h4⟩ | ⟨h1, h2, h3, h4⟩
  · unfold sameLines at g ⊢
    rwa [h1, h2, h3, h4] at g
  · unfold sameLines at g ⊢
    simp only [h1, h2, h3, h4, Line.commit_commit, or_self] at g
    exact .inr g

theorem StallKept.trans {s t u : State} (h : StallKept s t) (g : StallKept t u) : StallKept s u where
  done := g.done.trans h.done
  errCode := g.errCode.trans h.errCode
  errInfo := g.errInfo.trans h.errInfo
  result := g.result.trans h.result
  seq := g.seq.trans h.seq
  cache := g.cache.trans h.cache
  req := g.req.trans h.req
  lines := sameLines_trans h.lines g.lines

/-- With the strobe gated off no pulse passes, so no strobe event comes (R61, R67). -/
theorem Stalled.no_event {p : Process} {s : State} (h : Stalled p s) (i : Input) :
    (instantEvents i s).stbRise = false ∧ (instantEvents i s).stbFall = false ∧ (arrived i s).gateOpen = false := by
  rw [instantEvents_stbRise, instantEvents_stbFall, arrived_gateOpen, h.gate, h.sen]
  simp

/-- A stalled engine is stalled after a step too, and has changed nothing (R122). -/
theorem step_stalled {p : Process} {s : State} {i : Input} (h : Stalled p s) (hr : i.rst = false) :
    ∃ t, step (s.feed i) = .next t ∧ Stalled p t ∧ StallKept s t := by
  cases he : (levelEvents s i).any with
  | false =>
    exact ⟨_, step_of_no_edge he, ⟨h.busy, h.main, h.transfer, h.gate, h.sen⟩,
      ⟨rfl, rfl, rfl, rfl, rfl, rfl, rfl, .inl ⟨rfl, rfl, rfl, rfl⟩⟩⟩
  | true =>
    have hp : plainInstant i s = true := by simp [plainInstant, he, hr]
    obtain ⟨hrise, hfall, hgate⟩ := h.no_event i
    have hstep := step_transfer_waits hp h.busy h.main (h.transfer.imp (⟨·, hrise⟩) (⟨·, hfall⟩))
    obtain ⟨hpm, hpwr, hseq, hcache, herr, hinfo, hreq, -⟩ :=
      undisturbed_instantEnd i s.data.commit s.main .busy s.done s
    refine ⟨_, hstep, ⟨instantEnd_engine .., ?_, h.transfer, ?_, ?_⟩,
      ⟨instantEnd_done .., herr, hinfo, instantEnd_result .., hseq, hcache, hreq,
        .inr ⟨hpm, hpwr, instantEnd_data .., instantEnd_sen ..⟩⟩⟩
    · rw [instantEnd_main, h.main]
    · rw [instantEnd_gateOpen, hgate]
    · rw [instantEnd_sen, Line.settled_commit, h.sen]

/-- Over any inputs without a reset a stalled engine stays stalled (R122, R262). -/
theorem run_stalled {p : Process} (is : List Input) : ∀ {s : State}, Stalled p s → noReset is = true →
    ∃ u, runOn is s = .next u ∧ Stalled p u ∧ StallKept s u := by
  induction is with
  | nil =>
    intro s h _
    exact ⟨s, rfl, h, ⟨rfl, rfl, rfl, rfl, rfl, rfl, rfl, .inl ⟨rfl, rfl, rfl, rfl⟩⟩⟩
  | cons i is ih =>
    intro s h hr
    obtain ⟨hi, his⟩ := Bool.and_eq_true_iff.mp hr
    obtain ⟨t, hstep, ht, hst⟩ := step_stalled h (by simpa using hi)
    obtain ⟨u, hrun, hu, htu⟩ := ih ht his
    exact ⟨u, (runOn_cons_next hstep).trans hrun, hu, hst.trans htu⟩

/-- Settles O25: no strobe event comes while the strobe is gated off, and the transfer never opens it (`run_stalled`). -/
theorem gatedTransferStalls : Obligations.GatedTransferStalls := by
  unfold Obligations.GatedTransferStalls
  intro s p is hb hm hc hg hsen hr
  obtain ⟨u, hrun, hu, hk⟩ := run_stalled is ⟨hb, hm, hc, hg, hsen⟩ hr
  exact ⟨u, hrun, hu.busy, hu.main, hk.done, hk.errCode, hk.errInfo, hk.result, hk.seq, hk.cache, hk.req, hu.gate,
    hk.lines⟩

/-! ### The join (R70, R161) -/

/-- A verb at its join returns at the clock rise that publishes its label, with the result of its protocol branch, and
stays where it is without one, in either order of the processes (R68, R70). -/
theorem processed_joining {e : Events} {i : Input} {x : WireFrame} {k : List Frame} {v : CommandLabel} {s : State}
    (hm : s.main = some { point := .joining x, callers := k }) (hl : s.labelProc = .waiting v) :
    processed e i { point := .joining x, callers := k } s =
      if e.clkRise then returnTo k x { s with label := v, labelProc := .idle } else s := by
  have hstay : ∀ t : State, t.labelProc ≠ .finished → resume e { point := .joining x, callers := k } t = t :=
    fun t ht => if_neg (by simpa [Point.released] using ht)
  have hw : s.labelProc.suspended = true := by rw [hl]; rfl
  unfold processed
  rw [hstay s (by rw [hl]; simp), labelAfterMain_live hw (by rw [hl]; simp), runLabel_waiting hl]
  cases e.clkRise with
  | true =>
    have hjoin : (joinNext x k { s with label := v, labelProc := .finished }).andThen (returnTo k) =
        returnTo k x { s with label := v, labelProc := .idle } := rfl
    have hresume : resume e { point := .joining x, callers := k } { s with label := v, labelProc := .finished } =
        returnTo k x { s with label := v, labelProc := .idle } := rfl
    have hlast : ({ s with label := v, labelProc := .finished } : State).resumeJoin =
        returnTo k x { s with label := v, labelProc := .idle } := by
      unfold State.resumeJoin
      rw [hm]
      rfl
    simp only [if_true, hresume, hlast, ite_self]
  | false =>
    have hlast : s.resumeJoin = s := by
      unfold State.resumeJoin
      rw [hm]
      exact if_neg (by rw [hl]; simp)
    simp only [Bool.false_eq_true, if_false, hlast, hstay s (by rw [hl]; simp), ite_self]

/-- Settles O38: at the join nothing is left to do but to wait for the label's clock rise (`processed_joining`). -/
theorem verbWaitsForLabel : Obligations.VerbWaitsForLabel := by
  unfold Obligations.VerbWaitsForLabel
  intro s i x v hp hb hl
  have hstep : ∀ c, s.main = some { point := .joining x, callers := c } → step (s.feed i) =
      .next (if (levelEvents s i).clkRise then returnTo c x { arrived i s with label := v, labelProc := .idle }
        else arrived i s).notify := fun c hm => by
    rw [step_suspended hp hb hm (by simp [Point.callee]),
      processed_joining ((arrived_main i s).trans hm) ((arrived_labelProc i s).trans hl)]
    rfl
  have hund : undisturbed s (arrived i s) := by
    simpa [undisturbed] using (regsKept_arrived i s).cache
  refine ⟨fun c hm he => ⟨_, hstep c hm, ?_⟩, fun hm he => ⟨_, hstep [] hm, ?_⟩⟩
  · rw [he]
    exact ⟨arrived_main i s, arrived_labelProc i s, (regsKept_arrived i s).label, (arrived_engine i s).trans hb,
      arrived_data i s, arrived_sen i s, hund⟩
  · rw [he]
    exact ⟨⟨rfl, rfl, rfl, rfl⟩, rfl, arrived_data i s, arrived_sen i s, hund⟩

end Sys2Proof.Machine
end

section
/-! Commands, writes and timed rests as transfers (R91, R106, R120 to R122): the call of each, its run under the LOCKED
schedule, and a command's run under every interleaving of the edges. -/

namespace Sys2Proof.Machine

/-! ### The calls (R91, R106, R139 to R142) -/

/-- The numbers of the statements and the shift of the model make the same write frame (R103). -/
theorem doubled_toNat (d : Arg) : doubled d.toNat = writeFrame d := by
  apply BitVec.eq_of_toNat_eq
  simp [doubled, writeFrame, Nat.shiftLeft_eq, Nat.mul_comm]

theorem wordTransfer_eq_some {c : Code} {d : Arg} {l : Option CommandLabel} {tr : Transfer}
    (h : wordTransfer c d l = some tr) :
    d.toNat < 16384 ∧ tr = { code := c, tail := .writes (writeFrame d), label := l } := by
  unfold wordTransfer at h
  split at h <;> cases h
  rename_i hd
  exact ⟨hd, by rw [doubled_toNat]⟩

theorem byteTransfer_eq_some {c : Code} {d : Arg} {l : Option CommandLabel} {tr : Transfer}
    (h : byteTransfer c d l = some tr) :
    d.toNat < 256 ∧ tr = { code := c, tail := .writes (writeFrame d), label := l } := by
  unfold byteTransfer at h
  split at h <;> cases h
  rename_i hd
  exact ⟨hd, by rw [doubled_toNat]⟩

/-- A code with its `X` bits is the same number in the statements and in the model (R90, R110). Code 0x18 has none. -/
theorem codeWithX_value (k : CommandCode) (x : BitVec 2)
    (hk : k ≠ .beginProgrammingExternallyTimed := by exact nofun) : codeWithX k.value.toNat x = k.withX x := by
  cases k
  case beginProgrammingExternallyTimed => exact absurd rfl hk
  all_goals revert x; decide

/-- The frame in which a framing operation waits for the end of its code (R140 to R146). -/
def Tail.frames : Tail → List Frame
  | .nothing => []
  | .writes f => [.sendFrame f]
  | .reads p => [.readFrame p]
  | .rests => [.timedRest 3]

/-- The join of the verb that a transfer is, if it is one (R161). -/
def Transfer.joins (tr : Transfer) : List Frame := if tr.label.isSome then [.join] else []

/-- THE CALL OF A TRANSFER that reads nothing: the code's bits, then its tail, then the join (R91, R111, R161, R172). -/
theorem exec_of_transfer {i : Instr} {s : State} {tr : Transfer} (ht : transferOf i = some tr)
    (hp : ∀ p, tr.tail ≠ .reads p) (hk : s.callers = []) (hl : s.labelProc = .idle) :
    exec i s = .next (callSendBits (tr.code.setWidth 16) 6 (tr.tail.frames ++ tr.joins) (s.setLabelProc tr.process)) := by
  have bare : ∀ {c c' : Code} (fs : List Frame), c = c' →
      exec i s = .next (callSendBits (c'.setWidth 16) 6 (fs ++ s.callers) s) →
      exec i s = .next (callSendBits (c.setWidth 16) 6 (fs ++ []) (s.setLabelProc .idle)) := by
    rintro c _ fs rfl he
    rwa [← hk, show s.setLabelProc .idle = s by rw [← hl]; rfl]
  have verb : ∀ {c : Code} {l : CommandLabel} (fs : List Frame),
      exec i s = .next (callSendBits (c.setWidth 16) 6 (fs ++ .join :: s.callers) (s.setLabelProc (.waiting l))) →
      exec i s = .next (callSendBits (c.setWidth 16) 6 (fs ++ [.join]) (s.setLabelProc (.waiting l))) := by
    intro c l fs he
    rwa [hk] at he
  cases i
  case loadConfig d =>
    obtain ⟨hd, rfl⟩ := wordTransfer_eq_some ht
    rcases callLoadConfig_cases d s.callers s with ⟨hd', -⟩ | ⟨-, e⟩
    · omega
    · exact verb [.sendFrame (writeFrame d)] (congrArg _ e)
  case loadProgram d =>
    obtain ⟨hd, rfl⟩ := wordTransfer_eq_some ht
    rcases callLoadProgram_cases d s.callers s with ⟨hd', -⟩ | ⟨-, e⟩
    · omega
    · exact verb [.sendFrame (writeFrame d)] (congrArg _ e)
  case loadData d =>
    obtain ⟨hd, rfl⟩ := byteTransfer_eq_some ht
    rcases callLoadData_cases d s.callers s with ⟨hd', -⟩ | ⟨-, e⟩
    · omega
    · exact verb [.sendFrame (writeFrame d)] (congrArg _ e)
  case sendCmd c =>
    rw [transferOf] at ht
    obtain ⟨hc, ht⟩ := rawTransfer_eq_some ht
    cases ht
    rcases callSendCommand_cases c s.callers s with ⟨hc', -⟩ | ⟨-, e⟩
    · omega
    · exact bare [] rfl (congrArg _ e)
  case sendCmdData c d =>
    rw [transferOf] at ht
    obtain ⟨hc, ht⟩ := rawTransfer_eq_some ht
    obtain ⟨hd, rfl⟩ := wordTransfer_eq_some ht
    rcases callSendCommandAndData_cases c d s.callers s with ⟨hc', -⟩ | ⟨-, hd', -⟩ | ⟨-, -, e⟩
    · omega
    · omega
    · exact bare [.sendFrame (writeFrame d)] rfl (congrArg _ e)
  case sendCmdByte c d =>
    rw [transferOf] at ht
    obtain ⟨hc, ht⟩ := rawTransfer_eq_some ht
    obtain ⟨hd, rfl⟩ := byteTransfer_eq_some ht
    rcases callSendCommandAndByteData_cases c d s.callers s with ⟨hc', -⟩ | ⟨-, hd', -⟩ | ⟨-, -, e⟩
    · omega
    · omega
    · exact bare [.sendFrame (writeFrame d)] rfl (congrArg _ e)
  case sendCmdRead c =>
    rw [transferOf] at ht
    cases (rawTransfer_eq_some ht).2
    exact absurd rfl (hp _)
  case sendCmdReadByte c =>
    rw [transferOf] at ht
    cases (rawTransfer_eq_some ht).2
    exact absurd rfl (hp _)
  case readProgram => cases ht; exact absurd rfl (hp _)
  case readData => cases ht; exact absurd rfl (hp _)
  case wireReadDataFromProgramMemory x => cases ht; exact absurd rfl (hp _)
  case wireReadDataFromDataMemory x => cases ht; exact absurd rfl (hp _)
  case incrementAddress => cases ht; exact verb [] rfl
  case endProgramming => cases ht; exact verb [] rfl
  case beginProgram => cases ht; exact verb [.timedRest 3] rfl
  case eraseProgram => cases ht; exact verb [.timedRest 3] rfl
  case eraseData => cases ht; exact verb [.timedRest 3] rfl
  case wireLoadConfiguration x f => cases ht; exact bare [.sendFrame f] (codeWithX_value .loadConfiguration x) rfl
  case wireLoadDataForProgramMemory x f =>
    cases ht
    exact bare [.sendFrame f] (codeWithX_value .loadDataForProgramMemory x) rfl
  case wireLoadDataForDataMemory x f =>
    cases ht
    exact bare [.sendFrame f] (codeWithX_value .loadDataForDataMemory x) rfl
  case wireIncrementAddress x => cases ht; exact bare [] (codeWithX_value .incrementAddress x) rfl
  case wireBulkEraseProgramMemory x =>
    cases ht
    exact bare [.timedRest 3] (codeWithX_value .bulkEraseProgramMemory x) rfl
  case wireBulkEraseDataMemory x => cases ht; exact bare [.timedRest 3] (codeWithX_value .bulkEraseDataMemory x) rfl
  case wireEndProgramming => cases ht; exact bare [] rfl rfl
  case wireBeginProgrammingInternallyTimed => cases ht; exact bare [.timedRest 3] rfl rfl
  case wireBeginProgrammingExternallyTimed => cases ht; exact bare [] rfl rfl
  all_goals cases ht

/-- The end of a transfer that leaves no value: its label process is joined, and the request completes (R161, R223). -/
theorem returnTo_joins (tr : Transfer) (x : WireFrame) {w : State} (hl : w.labelProc = tr.process.ended) :
    returnTo tr.joins x w = { w with labelProc := .idle, engine := .idle, done := true, main := none } := by
  unfold Transfer.joins
  unfold Transfer.process at hl
  cases ht : tr.label with
  | none =>
    rw [ht] at hl
    show w.complete = _
    rw [← show w.labelProc = .idle from hl]
    rfl
  | some v =>
    rw [ht] at hl
    exact returnTo_join hl fun d c e => nomatch e

/-! ### Runs under LOCKED (R121, R122) -/

/-- The sixteen bits of a write frame, from a high tick: 32 ticks, two for each bit. -/
theorem run_writeFrame (f : WireFrame) (c : List Frame) {s : State} {is : List Input} (hs : s.levels true)
    (hsen : s.sen.settled = true) (hb : s.engine = .busy) (hL : lockedFrom true is = true) (hlen : is.length = 32) :
    ∃ (b : Bus) (d : Bool) (w : State), b.hi = true ∧
      w = ((s.published.later b).withData { cur := d, pend := some (f.getLsbD 15) }).setTs .tx ∧
      runOn is (callSendBits f 16 c s).notify = .next (returnTo c 0#16 w).notify ∧
      ((returnTo c 0#16 w).data = w.data → sendsBits is (callSendBits f 16 c s).notify f 16 2) := by
  obtain ⟨⟨b, d, hb1, -, hrun⟩, hbits⟩ := run_sendBits_high (s := (callSendBits f 16 c s).notify) (n := 16) (m := 15)
    (k := 0) (v := f) (c := c) rfl hs hsen hb rfl (by simp) hL hlen
  have hrun' := hrun.trans (congrArg (fun t => Host.Outcome.next t.notify) (returnTo_suspend c 0#16
    (((s.published.later b).withData { cur := d, pend := some (f.getLsbD 15) }).setTs .tx) (.sendBit f 16 0) c))
  refine ⟨b, d, _, hb1, rfl, hrun', fun hdata j hj => ?_⟩
  rcases Nat.lt_or_ge j 15 with h | h
  · exact hbits j (Nat.zero_le j) (by omega)
  · obtain rfl : j = 15 := by omega
    rw [List.take_of_length_le (by omega)]
    exact ⟨_, hrun', by rw [State.notify_data, hdata]; rfl⟩

/-- A code and a write frame, for any callers and any label process, from a tick of level `h`: its last bit goes out at a
high tick, at which the next operation may begin. -/
theorem run_write {h : Bool} (v f : WireFrame) (c : List Frame) {s : State} {is : List Input} (hs : s.levels h)
    (hg : h = false → s.gateOpen = false) (hsen : s.sen.settled = true) (hb : s.engine = .busy)
    (hL : lockedFrom h is = true) (hlen : is.length = 43 + h.toNat) :
    ∃ w : State, Transferred .tx (s.labelProc.publishes s.label) s w ∧ w.labelProc = s.labelProc.ended ∧
      (w.setLabelProc .idle).Ready true ∧ w.data.pend = some (f.getLsbD 15) ∧
      runOn is (callSendBits v 6 (.sendFrame f :: c) s).notify = .next (returnTo c 0#16 w).notify ∧
      sendsBits is (callSendBits v 6 (.sendFrame f :: c) s).notify v 6 (1 + h.toNat) ∧
      ((returnTo c 0#16 w).data = w.data →
        sendsBits is (callSendBits v 6 (.sendFrame f :: c) s).notify f 16 (13 + h.toNat)) := by
  obtain ⟨as, bs, rfl, hlenA, hlenB, hLa, hLb⟩ := lockedFrom_split (n := 11 + h.toNat) (m := 32) hL (by omega)
  have hhigh : levelAfter h (11 + h.toNat) = true := by cases h <;> rfl
  rw [hhigh] at hLb
  obtain ⟨b, d, u, hb1, -, rfl, hcode, hbits⟩ := run_code v (.sendFrame f :: c) hs hg hsen hb hLa hlenA
  obtain ⟨b', d', w, hb', rfl, hframe, hfbits⟩ := run_writeFrame f c
    (s := ((s.published.later b).withData { cur := d, pend := some (v.getLsbD 5) }).setTs .tx) ⟨hb1, hb1⟩
    ((Line.settled_commit _).trans hsen) hb hLb hlenB
  have hsettled := (Line.settled_commit _).trans ((Line.settled_commit _).trans hsen)
  refine ⟨_, ?_, ?_, ?_, rfl, (runOn_append_next hcode bs).trans hframe,
    sendsBits_append_left (hbits rfl) (by omega) bs, fun hdata => ?_⟩
  · exact ⟨Line.commit_commit _, Line.commit_commit _, Line.commit_commit _, rfl,
      congrArg State.label (published_published s), rfl, rfl, ⟨rfl, rfl, rfl, rfl, rfl, rfl⟩⟩
  · exact congrArg State.labelProc (published_published s)
  · exact ⟨⟨hb', hb'⟩, nofun, hsettled, hb, rfl⟩
  · have hf := sendsBits_append_right hcode (hfbits hdata)
    rwa [hlenA, show 11 + h.toNat + 2 = 13 + h.toNat by omega] at hf

/-- What a verb with a timed rest and the label `l` makes of `s`: the writes pending on `pm` and `pwr` are committed, `data`
is cleared and `sen` to rise with the next commit, `ts` is Rest, and the other registers are those of `s` (R126, R128). -/
structure Rested (l : CommandLabel) (s w : State) : Prop where
  pm : w.pm = s.pm.commit
  pwr : w.pwr = s.pwr.commit
  data : w.data = { cur := false, pend := none }
  sen : w.sen = { cur := false, pend := some true }
  ts : w.ts = .rest
  label : w.label = l
  seq : w.seq = s.seq
  done : w.done = s.done
  registers : keepsRegisters s w

theorem Rested.trans {l l' : CommandLabel} {s t u : State} (h : Rested l s t) (g : Rested l' t u) : Rested l' s u where
  pm := by rw [g.pm, h.pm, Line.commit_commit]
  pwr := by rw [g.pwr, h.pwr, Line.commit_commit]
  data := g.data
  sen := g.sen
  ts := g.ts
  label := g.label
  seq := g.seq.trans h.seq
  done := g.done.trans h.done
  registers := keepsRegisters_trans h.registers g.registers

/-- A verb with its timed rest, from a tick of level `h`: it returns `17` ticks later from a low tick, `18` from a high
one. -/
theorem run_timedVerb {h : Bool} (v : WireFrame) (l : CommandLabel) {k : List Frame} {s : State} {is : List Input}
    (hs : s.Ready h) (hk : ∀ d c, k ≠ .programAfterRead d :: c) (hL : lockedFrom h is = true)
    (hlen : is.length = 17 + h.toNat) :
    ∃ w : State, w.Ready true ∧ Rested l s w ∧
      runOn is (callSendBits v 6 (.timedRest 3 :: .join :: k) (s.setLabelProc (.waiting l))).notify =
        .next (returnTo k 0#16 w).notify ∧
      sendsBits is (callSendBits v 6 (.timedRest 3 :: .join :: k) (s.setLabelProc (.waiting l))).notify v 6
        (1 + h.toNat) := by
  obtain ⟨as, bs, rfl, hlenA, hlenB, hLa, hLb⟩ := lockedFrom_split (n := 11 + h.toNat) (m := 6) hL (by omega)
  have hhigh : levelAfter h (11 + h.toNat) = true := by cases h <;> rfl
  rw [hhigh] at hLb
  obtain ⟨b, d, u, hb1, -, rfl, hcode, hbits⟩ := run_code (s := s.setLabelProc (.waiting l)) v (.timedRest 3 :: .join :: k)
    hs.levels hs.gate hs.sen hs.busy hLa hlenA
  obtain ⟨b', hb', -, hrest⟩ := run_rest_three (c := .join :: k)
    (s := (returnTo (.timedRest 3 :: .join :: k) 0#16 ((((s.setLabelProc (.waiting l)).published.later b).withData
      { cur := d, pend := some (v.getLsbD 5) }).setTs .tx)).notify)
    ⟨hb1, hb1⟩ rfl hs.busy rfl rfl hLb hlenB
  rw [returnTo_join rfl fun d c e => absurd e (hk d c)] at hrest
  refine ⟨_, ?_, ?_, (runOn_append_next hcode bs).trans hrest, sendsBits_append_left (hbits rfl) (by omega) bs⟩
  · exact ⟨⟨hb', hb'⟩, nofun, rfl, hs.busy, rfl⟩
  · exact ⟨Line.commit_commit _, Line.commit_commit _, rfl, rfl, rfl, rfl, rfl, rfl, ⟨rfl, rfl, rfl, rfl, rfl, rfl⟩⟩

/-- The two erases of `bulkEraseDevice`, from a high tick: 36 ticks (R198). -/
theorem run_bulkErase {k : List Frame} {s : State} {is : List Input} (hs : s.Ready true)
    (hL : lockedFrom true is = true) (hlen : is.length = 36) :
    ∃ w : State, w.Ready true ∧ Rested .eraseData s w ∧
      runOn is (callEraseProgram (.bulkAfterProgram :: k) s).notify = .next (returnTo k 0#16 w).notify ∧
      sendsCodes is (callEraseProgram (.bulkAfterProgram :: k) s).notify [(0x09, 2), (0x0B, 20)] := by
  obtain ⟨as, bs, rfl, hlenA, hlenB, hLa, hLb⟩ := lockedFrom_split (n := 18) (m := 18) hL hlen
  obtain ⟨u, hu, hsu, runU, sendU⟩ := run_timedVerb 0x09#16 .eraseProgram (k := .bulkAfterProgram :: k) hs (by simp)
    hLa hlenA
  obtain ⟨w, hw, huw, runW, sendW⟩ := run_timedVerb 0x0B#16 .eraseData (k := .bulkAfterData :: k) hu (by simp) hLb hlenB
  refine ⟨w, hw, hsu.trans huw, (runOn_append_next runU bs).trans runW, fun p hp => ?_⟩
  have hprogram := sendsBits_append_left sendU (by simp [hlenA]) bs
  have hdata := sendsBits_append_right runU sendW
  rw [hlenA] at hdata
  simp only [List.mem_cons, List.not_mem_nil, or_false] at hp
  obtain rfl | rfl := hp
  · exact hprogram
  · exact hdata

/-! ### The statements under LOCKED -/

/-- Settles O31: the six bits of the code (`run_code`), then the join (`returnTo_joins`). -/
theorem commandTransfersComplete : Obligations.CommandTransfersComplete := by
  unfold Obligations.CommandTransfersComplete
  intro i s tr ht hp ⟨hb, _, hk, hl, hclk⟩ ⟨hsen, hraw⟩
  refine ⟨_, exec_of_transfer ht (by simp [hp]) hk hl, rfl, fun is hL hlen => ?_⟩
  rw [hp]
  obtain ⟨b, d, w, -, -, rfl, hrun, hsends⟩ := run_code (h := true) (s := s.setLabelProc tr.process)
    (tr.code.setWidth 16) tr.joins ⟨hclk, hraw⟩ nofun (by rw [State.setLabelProc_sen, hsen]; rfl) hb hL hlen
  rw [returnTo_joins tr 0#16 rfl] at hrun hsends
  refine ⟨hsends rfl, _, hrun, ⟨rfl, rfl, rfl, rfl⟩, ?_, ?_, rfl, process_publishes tr s.label, rfl, rfl, rfl, rfl, rfl, rfl,
    rfl, rfl, rfl⟩
  · show some ((tr.code.setWidth 16).getLsbD 5) = some (tr.code.getLsbD 5)
    simp
  · show s.sen.commit = _
    rw [hsen, Line.commit_of_none]

/-- Settles O32: the code and the frame (`run_write`), then the join (`returnTo_joins`). -/
theorem writeTransfersComplete : Obligations.WriteTransfersComplete := by
  unfold Obligations.WriteTransfersComplete
  intro i s tr f ht hp ⟨hb, _, hk, hl, hclk⟩ ⟨hsen, hraw⟩
  refine ⟨_, exec_of_transfer ht (by simp [hp]) hk hl, rfl, fun is hL hlen => ?_⟩
  rw [hp]
  obtain ⟨w, hw, hwl, -, hdata, hrun, hcode, hframe⟩ := run_write (h := true) (s := s.setLabelProc tr.process)
    (tr.code.setWidth 16) f tr.joins ⟨hclk, hraw⟩ nofun (by rw [State.setLabelProc_sen, hsen]; rfl) hb hL hlen
  rw [returnTo_joins tr 0#16 hwl] at hrun hframe
  obtain ⟨hcache, hresult, herr, hinfo, hreq, hparams⟩ := hw.registers
  have hwsen : w.sen = { cur := true, pend := none } := by
    rw [hw.sen, State.setLabelProc_sen, hsen, Line.commit_of_none]
  exact ⟨hcode, hframe rfl, _, hrun, ⟨rfl, rfl, rfl, rfl⟩, hdata, hwsen, hw.ts,
    hw.label.trans (process_publishes tr s.label), hresult, hw.pm, hw.pwr, hw.seq, hcache, herr, hinfo, hreq, hparams⟩

/-- Settles O51: the preconditions hold, so the call is the first erase's, and the two erases follow (`run_bulkErase`). -/
theorem bulkEraseCompletes : Obligations.BulkEraseCompletes := by
  unfold Obligations.BulkEraseCompletes
  intro s ⟨hb, _, hk, hl, hclk⟩ ⟨hsen, hraw⟩ ho hi hg
  have hcall : exec .bulkEraseDevice s = .next (callEraseProgram [.bulkAfterProgram] s) := by
    rw [exec, execBulkEraseDevice, hk]
    rcases callBulkEraseDevice_cases [] s with ⟨h, -⟩ | ⟨-, h, -⟩ | ⟨-, -, h, -⟩ | ⟨-, -, -, e⟩
    · cases ho.symm.trans h
    · cases hi.symm.trans h
    · cases hg.symm.trans h
    · rw [e]
  refine ⟨_, hcall, fun is hL hlen => ?_⟩
  have hready : s.Ready true := ⟨⟨hclk, hraw⟩, nofun, by rw [hsen]; rfl, hb, hl⟩
  obtain ⟨w, hw, hsw, hrun, hsends⟩ := run_bulkErase (k := []) hready hL hlen
  obtain ⟨hcache, hresult, herr, hinfo, hreq, hparams⟩ := hsw.registers
  exact ⟨hsends, _, hrun, ⟨rfl, rfl, rfl, hw.idle⟩, hsw.data, hsw.sen, hsw.ts, hsw.label, hresult, hsw.pm, hsw.pwr, hsw.seq,
    hcache, herr, hinfo, hreq, hparams⟩

end Sys2Proof.Machine
end

section
/-! A command under every interleaving of the edges (R4, R61, R120): the FREE schedule, from one gated strobe rise to the
next. -/

namespace Sys2Proof.Machine

/-! ### What moving bits leaves alone, over several instants -/

/-- One instant more: what was pending has been committed by then (R63). -/
theorem undisturbed_trans {s t u : State} (h : undisturbed s t.commit) (g : undisturbed t u) : undisturbed s u := by
  obtain ⟨hpm, hpwr, hseq, hcache, herr, hinfo, hreq, hparams⟩ := h
  obtain ⟨gpm, gpwr, gseq, gcache, gerr, ginfo, greq, gparams⟩ := g
  exact ⟨gpm.trans hpm, gpwr.trans hpwr, gseq.trans hseq, gcache.trans hcache, gerr.trans herr, ginfo.trans hinfo,
    greq.trans hreq, gparams.trans hparams⟩

theorem undisturbed_commit {s t : State} (h : undisturbed s t) : undisturbed s t.commit := by
  obtain ⟨hpm, hpwr, hrest⟩ := h
  exact ⟨by rw [State.commit_pm, hpm, Line.commit_commit], by rw [State.commit_pwr, hpwr, Line.commit_commit], hrest⟩

/-- Without a force an instant's step 5 leaves `ts` (R226). -/
theorem forcedTs_of_no_force {i : Input} {s : State} (h : i.tsForceValid = false) : forcedTs i s = s.ts := by
  rw [forcedTs_eq_forceOn, forceOn, h, Bool.and_false]
  rfl

/-! ### A bare sendBits (R120) -/

/-- A bare `sendBits(v, n)` called in `s₀` awaits the gated strobe rise of its bit `k`, with the strobe enabled, no pulse open
over a low raw strobe, and the raw strobe free. -/
structure Sending (v : WireFrame) (n k : Nat) (s₀ s : State) : Prop where
  busy : s.engine = .busy
  main : s.main = some { point := .sendBit v n k, callers := [] }
  idle : s.labelProc = .idle
  sen : s.sen = { cur := true, pend := none }
  gate : s.rawStb = false → s.gateOpen = false
  free : s.params.schedule = .free
  label : s.label = s₀.label
  result : s.result = s₀.result
  kept : undisturbed s₀ s.commit

section sending

variable {v : WireFrame} {n k : Nat} {s₀ s : State}

theorem Sending.rawLevel (h : Sending v n k s₀ s) (i : Input) : rawLevel s.params i = i.rawStb := by
  rw [Machine.rawLevel, h.free]

/-- With the strobe enabled every rise of the raw strobe passes the gate (R61). -/
theorem Sending.stbRise (h : Sending v n k s₀ s) (i : Input) :
    (instantEvents i s).stbRise = (!s.rawStb && i.rawStb) := by
  rw [instantEvents_stbRise, h.rawLevel, h.sen]
  cases hr : s.rawStb with
  | true => rfl
  | false => rw [h.gate hr]; cases i.rawStb <;> rfl

/-- An instant that leaves the process at the bit `j` of the same `sendBits`. -/
theorem sending_instantEnd (h : Sending v n k s₀ s) (i : Input) (d : Line) (j : Nat) :
    Sending v n j s₀ (instantEnd i d (some { point := .sendBit v n j, callers := [] }) .busy s.done s) where
  busy := instantEnd_engine ..
  main := instantEnd_main ..
  idle := (label_instantEnd i d _ _ _ s h.idle).1
  sen := by rw [instantEnd_sen, h.sen, Line.commit_of_none]
  gate := by
    rw [instantEnd_rawStb, instantEnd_gateOpen, arrived_gateOpen]
    intro hlow
    rw [hlow]
    cases hr : s.rawStb with
    | true => cases s.gateOpen <;> simp
    | false => simp [h.gate hr]
  free := by
    obtain ⟨-, -, -, -, -, -, -, hparams⟩ := undisturbed_instantEnd i d
      (some { point := .sendBit v n j, callers := [] }) .busy s.done s
    rw [hparams, h.free]
  label := (label_instantEnd i d _ _ _ s h.idle).2.trans h.label
  result := (instantEnd_result ..).trans h.result
  kept := undisturbed_commit (undisturbed_trans h.kept (undisturbed_instantEnd ..))

/-- A step without a rise of the raw strobe waits (R67). -/
theorem step_sending_waits (h : Sending v n k s₀ s) {i : Input} (hr : i.rst = false)
    (he : (!s.rawStb && i.rawStb) = false) :
    ∃ t, step (s.feed i) = .next t ∧ Sending v n k s₀ t ∧ t.rawStb = i.rawStb ∧
      (i.tsForceValid = false → t.ts = s.ts) := by
  cases hany : (levelEvents s i).any with
  | false =>
    have hraw : s.rawStb = i.rawStb := by
      have hno : (levelEvents s i).rawFall = false := by
        simp only [Events.any, Bool.or_eq_false_iff] at hany
        exact hany.2
      simp only [levelEvents, h.rawLevel] at hno
      revert he hno
      cases s.rawStb <;> cases i.rawStb <;> decide
    exact ⟨_, step_of_no_edge hany, ⟨h.busy, h.main, h.idle, h.sen, h.gate, h.free, h.label, h.result, h.kept⟩, hraw,
      fun _ => rfl⟩
  | true =>
    have hp : plainInstant i s = true := by simp [plainInstant, hany, hr]
    have hstep := step_transfer_waits hp h.busy h.main (.inl ⟨rfl, (h.stbRise i).trans he⟩)
    rw [h.main] at hstep
    exact ⟨_, hstep, sending_instantEnd h i _ k, (instantEnd_rawStb ..).trans (h.rawLevel i),
      fun hf => (instantEnd_ts ..).trans (forcedTs_of_no_force hf)⟩

/-- A rise of the raw strobe is a plain instant. -/
theorem Sending.plain (h : Sending v n k s₀ s) {i : Input} (hr : i.rst = false) (he : (!s.rawStb && i.rawStb) = true) :
    plainInstant i s = true := by
  simp [plainInstant, Events.any, levelEvents, h.rawLevel, he, hr]

/-- A run over one input is its step. -/
theorem runOn_singleton (i : Input) (s : State) : runOn [i] s = step (s.feed i) := by
  unfold runOn
  cases step (s.feed i) <;> rfl

/-- The first of the inputs that bring the raw strobe's rise number `r + 1`: it is that rise, or an earlier one, or none. -/
theorem endsAtStrobe_cons {c : Bool} {r : Nat} {i : Input} {is : List Input} (h : endsAtStrobe c (r + 1) (i :: is)) :
    ((!c && i.rawStb) = true ∧ is = [] ∧ r = 0) ∨
    ((!c && i.rawStb) = true ∧ ∃ r', r = r' + 1 ∧ endsAtStrobe i.rawStb (r' + 1) is) ∨
    ((!c && i.rawStb) = false ∧ endsAtStrobe i.rawStb (r + 1) is) := by
  obtain ⟨h1, h2⟩ := h
  cases is with
  | nil =>
    simp only [List.dropLast_singleton, strobeRises] at h1 h2
    obtain rfl : r = 0 := by omega
    exact .inl ⟨Decidable.by_contra fun hno => by simp [hno] at h1, rfl, rfl⟩
  | cons j js =>
    rw [List.dropLast_cons_cons, strobeRises] at h2
    rw [strobeRises] at h1
    cases he : !c && i.rawStb with
    | true =>
      rw [he, if_pos rfl] at h1 h2
      obtain ⟨r', rfl⟩ : ∃ r', r = r' + 1 := ⟨r - 1, by omega⟩
      exact .inr (.inl ⟨rfl, r', rfl, by omega, by omega⟩)
    | false =>
      rw [he, if_neg Bool.false_ne_true] at h1 h2
      exact .inr (.inr ⟨rfl, by omega, by omega⟩)

/-- A run to a later rise of the raw strobe: its last input brings that rise to the process, which awaits the bit of that
number (R61, R120). -/
theorem run_sending (is : List Input) : ∀ {k r : Nat} {s : State}, Sending v n k s₀ s → noReset is = true →
    endsAtStrobe s.rawStb (r + 1) is → k + r < n →
    ∃ (u : State) (i : Input), runOn is s = step (u.feed i) ∧ Sending v n (k + r) s₀ u ∧ plainInstant i u = true ∧
      (instantEvents i u).stbRise = true ∧ (noForce is = true → i.tsForceValid = false ∧ u.ts = s.ts) := by
  induction is with
  | nil => intro k r s _ _ he _; exact absurd he.1 (by simp [strobeRises])
  | cons i is ih =>
    intro k r s h hr he hk
    obtain ⟨hi, his⟩ := Bool.and_eq_true_iff.mp hr
    rw [Bool.not_eq_true'] at hi
    have hforce : ∀ {t : State}, (i.tsForceValid = false → t.ts = s.ts) → ∀ {u : State} {j : Input},
        (noForce is = true → j.tsForceValid = false ∧ u.ts = t.ts) →
        (noForce (i :: is) = true → j.tsForceValid = false ∧ u.ts = s.ts) := by
      intro t ht u j hu hf
      obtain ⟨hf1, hf2⟩ := Bool.and_eq_true_iff.mp hf
      exact ⟨(hu hf2).1, (hu hf2).2.trans (ht (by simpa using hf1))⟩
    rcases endsAtStrobe_cons he with ⟨hrise, rfl, rfl⟩ | ⟨hrise, r', rfl, hlater⟩ | ⟨hquiet, hlater⟩
    · refine ⟨s, i, runOn_singleton i s, h, h.plain hi hrise, (h.stbRise i).trans hrise, fun hf => ⟨?_, rfl⟩⟩
      simpa [noForce] using hf
    · have hp := h.plain hi hrise
      have hstep := step_sendBit_more hp h.busy h.main ((h.stbRise i).trans hrise) (by omega)
      obtain ⟨u, j, hrun, hu, hju, hev, hts⟩ := ih
        (sending_instantEnd h i { cur := s.data.settled, pend := some (v.getLsbD k) } (k + 1)) his
        (by rwa [instantEnd_rawStb, h.rawLevel]) (by omega)
      refine ⟨u, j, (runOn_cons_next hstep).trans hrun, ?_, hju, hev,
        hforce (fun hf => (instantEnd_ts ..).trans (forcedTs_of_no_force hf)) hts⟩
      rwa [show k + (r' + 1) = k + 1 + r' by omega]
    · obtain ⟨t, hstep, ht, hraw, htt⟩ := step_sending_waits h hi hquiet
      obtain ⟨u, j, hrun, hu, hju, hev, hts⟩ := ih ht his (by rwa [hraw]) hk
      exact ⟨u, j, (runOn_cons_next hstep).trans hrun, hu, hju, hev, hforce htt hts⟩

end sending

/-- The call of a command without a label, at a high raw strobe, is the beginning of its `sendBits` (R142). -/
theorem sending_call {s : State} (v : WireFrame) (hf : s.params.schedule = .free) (hc : calling s) (hs : strobing s) :
    Sending v 6 0 s (callSendBits v 6 [] s).notify := by
  obtain ⟨hb, -, -, hl, -⟩ := hc
  obtain ⟨hsen, hraw⟩ := hs
  have hgate : s.rawStb = false → s.gateOpen = false := fun h => by cases hraw.symm.trans h
  exact ⟨hb, rfl, hl, hsen, hgate, hf, rfl, rfl, rfl, rfl, rfl, rfl, rfl, rfl, rfl, rfl⟩

/-- Settles O30: the run to the rise of bit `k` (`run_sending`), and there the bit goes out (`step_sendBit_more`), with the
sixth the command is complete (`step_sendBit_last`). -/
theorem commandCompletesUnderFree : Obligations.CommandCompletesUnderFree := by
  unfold Obligations.CommandCompletesUnderFree
  intro i s tr ht hp hlab hfree hc hs
  obtain ⟨-, -, hk, hl, -⟩ := id hc
  have hcall : exec i s = .next (callSendBits (tr.code.setWidth 16) 6 [] s) := by
    rw [exec_of_transfer ht (by simp [hp]) hk hl, hp, Transfer.joins, Transfer.process, hlab,
      show s.setLabelProc .idle = s by rw [← hl]; rfl]
    rfl
  have hbit : ∀ j, j < 6 → (tr.code.setWidth 16).getLsbD j = tr.code.getLsbD j := fun j hj => by
    simp [show j < 16 by omega]
  have hsend := sending_call (tr.code.setWidth 16) hfree hc hs
  refine ⟨_, hcall, rfl, fun k is hk6 hr he => ?_, fun is hr hf he => ?_⟩
  · obtain ⟨u, j, hrun, hu, hju, hev, -⟩ := run_sending is (k := 0) (r := k) hsend hr
      (by rw [State.notify_rawStb]; exact hs.2 ▸ he) (by omega)
    rw [Nat.zero_add] at hu
    rcases Nat.lt_or_ge (k + 1) 6 with hlt | hge
    · refine ⟨_, hrun.trans (step_sendBit_more hju hu.busy hu.main hev hlt), ?_⟩
      rw [instantEnd_data, hbit k hk6]
    · refine ⟨_, hrun.trans (step_sendBit_last hju hu.busy hu.main hev hge), ?_⟩
      rw [instantEnd_data, hbit k hk6]
  · obtain ⟨u, j, hrun, hu, hju, hev, hts⟩ := run_sending is (k := 0) (r := 5) hsend hr
      (by rw [State.notify_rawStb]; exact hs.2 ▸ he) (by omega)
    obtain ⟨hjf, huts⟩ := hts hf
    refine ⟨_, hrun.trans (step_sendBit_last hju hu.busy hu.main hev (Nat.le_refl 6)), ⟨instantEnd_engine ..,
      instantEnd_done .., instantEnd_main .., (label_instantEnd j _ _ _ _ u hu.idle).1⟩, ?_, ?_, ?_,
      (label_instantEnd j _ _ _ _ u hu.idle).2.trans hu.label, (instantEnd_result ..).trans hu.result,
      undisturbed_trans hu.kept (undisturbed_instantEnd ..)⟩
    · rw [instantEnd_data, hbit 5 (by omega)]
    · rw [instantEnd_sen, hu.sen, Line.commit_of_none]
    · rw [instantEnd_ts, forcedTs_of_no_force hjf, huts]
      rfl

end Sys2Proof.Machine
end

section
/-! Encodings in both directions (R90, R91, R103 to R106, R108, R109): the command codes, the two formats, and the
statements about them. -/

namespace Sys2Proof

/-! ### The command codes (R90, R91, R109) -/

/-- No six-bit word selects two codes (R91). -/
theorem CommandCode.selectedBy_unique {k l : CommandCode} {c : Code} (hk : k.selectedBy c = true)
    (hl : l.selectedBy c = true) : k = l := by
  revert c
  cases k <;> cases l <;> decide

theorem CommandCode.mem_all (k : CommandCode) : k ∈ CommandCode.all := by
  cases k <;> decide

theorem selectCode_eq_some_iff (c : Code) (k : CommandCode) : selectCode c = some k ↔ k.selectedBy c = true := by
  have selected : ∀ {l}, selectCode c = some l → l.selectedBy c = true := fun h =>
    List.find?_some (p := fun k => CommandCode.selectedBy k c) h
  refine ⟨selected, fun hk => ?_⟩
  have hsome : (selectCode c).isSome = true := List.find?_isSome.mpr ⟨k, k.mem_all, hk⟩
  obtain ⟨l, hl⟩ := Option.isSome_iff_exists.mp hsome
  rw [hl, CommandCode.selectedBy_unique hk (selected hl)]

/-- The code as it is sent with the two bits `x`: a template without `X` has no place for them (R90, R110). -/
def CommandCode.sent (k : CommandCode) (x : BitVec 2) : Code := if k.mask = 0x0F#6 then k.withX x else k.value

theorem CommandCode.selectedBy_sent (k : CommandCode) (x : BitVec 2) : k.selectedBy (k.sent x) = true := by
  revert x
  cases k <;> decide

/-- A word that selects a code is that code, sent with the bits 5:4 of the word (R91, R110). -/
theorem CommandCode.sent_of_selectedBy {k : CommandCode} {c : Code} (h : k.selectedBy c = true) :
    k.sent (c.extractLsb' 4 2) = c := by
  revert c
  cases k <;> decide

/-- The bits 5:4 of a sent code are those it was sent with, where the decoder looks at them. -/
theorem decodeTransactionOf_sent (k : CommandCode) (x : BitVec 2) (f : WireFrame) :
    decodeTransactionOf k ((k.sent x).extractLsb' 4 2) f = decodeTransactionOf k x f := by
  have hX : k.mask = 0x0F#6 → (k.sent x).extractLsb' 4 2 = x := by
    clear f
    revert x
    cases k <;> decide
  cases k
  case endProgramming => rfl
  case beginProgrammingInternallyTimed => rfl
  case beginProgrammingExternallyTimed => rfl
  all_goals rw [hX rfl]

/-! ### Bus transactions (R91, R103) -/

theorem withoutFrame_eq_ok {f : WireFrame} {i j : Instr} : withoutFrame f i = .ok j ↔ f = 0#16 ∧ i = j := by
  unfold withoutFrame
  by_cases h : f = 0#16 <;> simp [h]

theorem withWordFrame_eq_ok {f : WireFrame} {i j : Instr} :
    withWordFrame f i = .ok j ↔ wordFrameOk f = true ∧ i = j := by
  unfold withWordFrame wordFrameOk
  cases f.getLsbD 0 <;> cases f.getLsbD 15 <;> simp

theorem withByteFrame_eq_ok {f : WireFrame} {i j : Instr} :
    withByteFrame f i = .ok j ↔ byteFrameOk f = true ∧ i = j := by
  unfold withByteFrame byteFrameOk wordFrameOk
  by_cases h : f.extractLsb' 9 6 = 0#6 <;> cases f.getLsbD 0 <;> cases f.getLsbD 15 <;> simp [h]

@[simp] theorem transactionCode_packTransaction (c : Code) (f : WireFrame) :
    transactionCode (packTransaction c f) = c := BitVec.extractLsb'_append_eq_right

@[simp] theorem transactionHigh_packTransaction (c : Code) (f : WireFrame) :
    transactionHigh (packTransaction c f) = 0#2 := by
  rw [transactionHigh, packTransaction, BitVec.extractLsb'_append_eq_of_le (Nat.le_refl 6)]
  exact BitVec.extractLsb'_append_eq_right

@[simp] theorem transactionFrame_packTransaction (c : Code) (f : WireFrame) :
    transactionFrame (packTransaction c f) = f := by
  rw [transactionFrame, packTransaction, BitVec.extractLsb'_append_eq_of_le (by decide)]
  exact BitVec.extractLsb'_append_eq_left

/-- A transaction word is its three fields. -/
theorem packTransaction_of_high {w : TransactionWord} (h : transactionHigh w = 0#2) :
    packTransaction (transactionCode w) (transactionFrame w) = w := by
  have hlow : transactionHigh w ++ transactionCode w = w.extractLsb' 0 8 :=
    BitVec.extractLsb'_append_extractLsb'_eq_extractLsb' rfl
  have hall : transactionFrame w ++ w.extractLsb' 0 8 = w.extractLsb' 0 24 :=
    BitVec.extractLsb'_append_extractLsb'_eq_extractLsb' rfl
  rw [packTransaction, ← h, BitVec.append_assoc, hlow]
  exact hall.trans BitVec.extractLsb'_eq_self

/-- A code and a frame decode as the code's transaction (R91). -/
theorem decodeTransaction_packTransaction (k : CommandCode) (x : BitVec 2) (f : WireFrame) :
    decodeTransaction (packTransaction (k.sent x) f) = decodeTransactionOf k x f := by
  rw [decodeTransaction, transactionHigh_packTransaction, transactionCode_packTransaction,
    transactionFrame_packTransaction, (selectCode_eq_some_iff _ k).mpr (k.selectedBy_sent x)]
  exact decodeTransactionOf_sent k x f

/-- Bits that decode are a code, its two bits and a frame (R91). -/
theorem decodeTransaction_eq_ok {w : TransactionWord} {i : Instr} (h : decodeTransaction w = .ok i) :
    ∃ k x f, w = packTransaction (CommandCode.sent k x) f ∧ decodeTransactionOf k x f = .ok i := by
  unfold decodeTransaction at h
  split at h
  · cases h
  · rename_i hhigh
    cases hk : selectCode (transactionCode w) with
    | none =>
      rw [hk] at h
      cases h
    | some k =>
      rw [hk] at h
      refine ⟨k, _, _, ?_, h⟩
      rw [CommandCode.sent_of_selectedBy ((selectCode_eq_some_iff _ k).mp hk),
        packTransaction_of_high (Decidable.not_not.mp hhigh)]

/-- What a transaction decodes to is well formed and is encoded as that transaction (R91, R103). -/
theorem encode_of_decodeTransactionOf {k : CommandCode} {x : BitVec 2} {f : WireFrame} {i : Instr}
    (h : decodeTransactionOf k x f = .ok i) :
    i.wellFormed = true ∧ encode i = .transaction (packTransaction (k.sent x) f) := by
  cases k
  case loadConfiguration =>
    obtain ⟨hf, rfl⟩ := withWordFrame_eq_ok.mp h
    exact ⟨hf, rfl⟩
  case loadDataForProgramMemory =>
    obtain ⟨hf, rfl⟩ := withWordFrame_eq_ok.mp h
    exact ⟨hf, rfl⟩
  case loadDataForDataMemory =>
    obtain ⟨hf, rfl⟩ := withByteFrame_eq_ok.mp h
    exact ⟨hf, rfl⟩
  all_goals
    obtain ⟨rfl, rfl⟩ := withoutFrame_eq_ok.mp h
    exact ⟨rfl, rfl⟩

/-! ### Request words (R105, R106, R108) -/

@[simp] theorem requestRsv_packRequest (op : BitVec 5) (c : Cmd) (d : Arg) : requestRsv (packRequest op c d) = 0#3 := by
  rw [requestRsv, packRequest, BitVec.extractLsb'_append_eq_of_le (by decide),
    BitVec.extractLsb'_append_eq_of_le (by decide)]
  exact BitVec.extractLsb'_append_eq_left

@[simp] theorem requestCmd_packRequest (op : BitVec 5) (c : Cmd) (d : Arg) : requestCmd (packRequest op c d) = c := by
  rw [requestCmd, packRequest, BitVec.extractLsb'_append_eq_of_le (Nat.le_refl 16)]
  exact BitVec.extractLsb'_append_eq_right

@[simp] theorem requestArg_packRequest (op : BitVec 5) (c : Cmd) (d : Arg) : requestArg (packRequest op c d) = d :=
  BitVec.extractLsb'_append_eq_right

/-- A request word with `rsv = 0` decodes as its operation (R105). -/
theorem decodeRequest_of_rsv {q : RequestWord} (h : requestRsv q = 0#3) :
    decodeRequest q = decodeOp (requestOp q) (requestCmd q) (requestArg q) := if_neg (not_not_intro h)

theorem decodeRequest_packRequest (op : BitVec 5) (c : Cmd) (d : Arg) :
    decodeRequest (packRequest op c d) = decodeOp op c d := by
  rw [decodeRequest_of_rsv (requestRsv_packRequest op c d), Machine.requestOp_packRequest, requestCmd_packRequest,
    requestArg_packRequest]

/-- The fields of a request word in numbers (R105). -/
theorem requestRsv_toNat (q : RequestWord) : (requestRsv q).toNat = q.toNat / 2 ^ 29 := by
  have hq := q.isLt
  rw [requestRsv, BitVec.extractLsb'_toNat, Nat.shiftRight_eq_div_pow]
  omega

theorem requestCmd_toNat (q : RequestWord) : (requestCmd q).toNat = q.toNat / 2 ^ 16 % 256 := by
  simp [requestCmd, Nat.shiftRight_eq_div_pow]

theorem requestArg_toNat (q : RequestWord) : (requestArg q).toNat = q.toNat % 2 ^ 16 := by
  simp [requestArg]

/-- A request word in numbers (R105). -/
theorem packRequest_eq_ofNat (op : BitVec 5) (c : Cmd) (d : Arg) :
    packRequest op c d = BitVec.ofNat 32 (op.toNat * 2 ^ 24 + c.toNat * 2 ^ 16 + d.toNat) := by
  apply BitVec.eq_of_toNat_eq
  have hop := op.isLt
  have hc := c.isLt
  have hd := d.isLt
  simp only [packRequest, BitVec.toNat_append, BitVec.toNat_ofNat]
  rw [← Nat.shiftLeft_add_eq_or_of_lt hd, ← Nat.shiftLeft_add_eq_or_of_lt hc, ← Nat.shiftLeft_add_eq_or_of_lt hop]
  simp only [Nat.shiftLeft_eq]
  omega

/-- The operation numbers that R106 leaves unassigned (R108). -/
theorem decodeOp_eq_error (op : BitVec 5) (c : Cmd) (d : Arg) :
    (∃ e, decodeOp op c d = .error e) ↔ op.toNat ∈ [0x00, 0x0A, 0x0B, 0x0C, 0x0D, 0x0E, 0x0F] := by
  have hop := op.isLt
  unfold decodeOp
  split
  case h_26 =>
    refine iff_of_true ⟨_, rfl⟩ ?_
    simp only [imp_false, List.mem_cons, List.not_mem_nil, or_false] at *
    omega
  all_goals
    rename_i hnum
    simp [hnum]

/-- The command field as the operation uses it: the SEND_CMD group's, else 0 (R106). -/
def usedCmd (op : BitVec 5) (c : Cmd) : Cmd := if [0x1A, 0x1B, 0x1C, 0x1D, 0x1E].contains op.toNat then c else 0#8

/-- The argument field as the operation uses it: where R106 has an operand there, else 0. -/
def usedArg (op : BitVec 5) (d : Arg) : Arg :=
  if [0x04, 0x10, 0x11, 0x12, 0x1B, 0x1C, 0x1F].contains op.toNat then d else 0#16

/-- What an operation decodes to is encoded with the fields the operation uses, the others 0 (R106). -/
theorem encode_of_decodeOp {op : BitVec 5} {c : Cmd} {d : Arg} {i : Instr} (h : decodeOp op c d = .ok i) :
    encode i = .request (packRequest op (usedCmd op c) (usedArg op d)) := by
  have hnum : op = BitVec.ofNat 5 op.toNat := by simp
  unfold decodeOp at h
  split at h <;> cases h
  all_goals
    rename_i hop
    rw [hop] at hnum
    rw [hnum]
    rfl

/-- The used bits of a legal word, field by field. -/
theorem usedBits_of_rsv {q : RequestWord} (h : requestRsv q = 0#3) : BitVec.ofNat 32 (Machine.usedBits q) =
    packRequest (requestOp q) (usedCmd (requestOp q) (requestCmd q)) (usedArg (requestOp q) (requestArg q)) := by
  have hop : q.toNat / 2 ^ 24 = (requestOp q).toNat := by
    have hrsv : (requestRsv q).toNat = 0 := by rw [h]; rfl
    rw [requestRsv_toNat] at hrsv
    rw [Machine.requestOp_toNat]
    omega
  have hcmd : ∀ b : Bool, (if b then (requestCmd q).toNat * 2 ^ 16 else 0) =
      (if b then requestCmd q else 0#8).toNat * 2 ^ 16 := fun b => by cases b <;> simp
  have harg : ∀ b : Bool, (if b then (requestArg q).toNat else 0) = (if b then requestArg q else 0#16).toNat :=
    fun b => by cases b <;> simp
  rw [packRequest_eq_ofNat, Machine.usedBits, hop, ← requestCmd_toNat, ← requestArg_toNat, hcmd, harg]
  rfl

theorem illegalWord_iff (q : RequestWord) : Machine.illegalWord q ↔
    requestRsv q ≠ 0#3 ∨ (requestOp q).toNat ∈ [0x00, 0x0A, 0x0B, 0x0C, 0x0D, 0x0E, 0x0F] := by
  rw [Machine.illegalWord, ← requestRsv_toNat, ← Machine.requestOp_toNat, Ne, Ne, ← BitVec.toNat_inj]
  rfl

theorem decodeRequest_eq_error (q : RequestWord) : (∃ e, decodeRequest q = .error e) ↔ Machine.illegalWord q := by
  rw [illegalWord_iff]
  by_cases h : requestRsv q = 0#3
  · rw [decodeRequest_of_rsv h, decodeOp_eq_error]
    simp [h]
  · simp [decodeRequest, h]

/-! ### The statements -/

/-- Settles O1: every instruction is encoded as the operation (`decodeRequest_packRequest`) or the code
(`decodeTransaction_packTransaction`) under which the decoder lists it. -/
theorem decodeInvertsEncode : Obligations.DecodeInvertsEncode := by
  unfold Obligations.DecodeInvertsEncode
  intro i hwf
  cases i
  case wireLoadConfiguration x f =>
    exact (decodeTransaction_packTransaction .loadConfiguration x f).trans (withWordFrame_eq_ok.mpr ⟨hwf, rfl⟩)
  case wireLoadDataForProgramMemory x f =>
    exact (decodeTransaction_packTransaction .loadDataForProgramMemory x f).trans (withWordFrame_eq_ok.mpr ⟨hwf, rfl⟩)
  case wireLoadDataForDataMemory x f =>
    exact (decodeTransaction_packTransaction .loadDataForDataMemory x f).trans (withByteFrame_eq_ok.mpr ⟨hwf, rfl⟩)
  case wireIncrementAddress x => exact decodeTransaction_packTransaction .incrementAddress x 0#16
  case wireReadDataFromProgramMemory x => exact decodeTransaction_packTransaction .readDataFromProgramMemory x 0#16
  case wireReadDataFromDataMemory x => exact decodeTransaction_packTransaction .readDataFromDataMemory x 0#16
  case wireBulkEraseProgramMemory x => exact decodeTransaction_packTransaction .bulkEraseProgramMemory x 0#16
  case wireBulkEraseDataMemory x => exact decodeTransaction_packTransaction .bulkEraseDataMemory x 0#16
  case wireEndProgramming => exact decodeTransaction_packTransaction .endProgramming 0#2 0#16
  case wireBeginProgrammingInternallyTimed =>
    exact decodeTransaction_packTransaction .beginProgrammingInternallyTimed 0#2 0#16
  case wireBeginProgrammingExternallyTimed =>
    exact decodeTransaction_packTransaction .beginProgrammingExternallyTimed 0#2 0#16
  all_goals exact decodeRequest_packRequest _ _ _

/-- Settles O2: bits that decode are a code and its frame (`decodeTransaction_eq_ok`), which the encoder writes back
(`encode_of_decodeTransactionOf`). -/
theorem encodeInvertsTransactionDecode : Obligations.EncodeInvertsTransactionDecode := by
  unfold Obligations.EncodeInvertsTransactionDecode
  intro w i h
  obtain ⟨k, x, f, rfl, hi⟩ := decodeTransaction_eq_ok h
  exact encode_of_decodeTransactionOf hi

/-- Settles O3: the numbers of R108 are those the decoder rejects (`decodeRequest_eq_error`), and a legal word keeps the
fields its operation uses (`encode_of_decodeOp`, `usedBits_of_rsv`). -/
theorem requestDecode : Obligations.RequestDecode := by
  unfold Obligations.RequestDecode
  refine ⟨decodeRequest_eq_error, fun q i h => ?_⟩
  obtain ⟨hrsv, -⟩ := Machine.encode_of_decodeRequest h
  rw [decodeRequest_of_rsv hrsv] at h
  rw [usedBits_of_rsv hrsv, encode_of_decodeOp h]

/-- Settles O4: the table by evaluation, the selection rule by `selectCode_eq_some_iff`, and the unused words one by
one. -/
theorem commandCodeTable : Obligations.CommandCodeTable := by
  unfold Obligations.CommandCodeTable
  refine ⟨by decide, fun c k => ?_, by decide⟩
  rw [selectCode_eq_some_iff, CommandCode.selectedBy, beq_iff_eq]

/-- Settles O6: the decoder evaluated on each word. -/
theorem sampleWordsDecode : Obligations.SampleWordsDecode := by
  unfold Obligations.SampleWordsDecode
  decide

end Sys2Proof
end

section
/-! Frames in numbers, both directions (R103, R104). -/

namespace Sys2Proof.Machine

theorem writeFrame_toNat {d : Arg} (h : d.toNat < 2 ^ 15) : (writeFrame d).toNat = 2 * d.toNat := by
  rw [← doubled_toNat, doubled, BitVec.toNat_ofNat]
  omega

/-- A bad frame in numbers: bit 0 or bit 15 is 1 (R104). -/
theorem badFraming_iff (f : WireFrame) : badFraming f = true ↔ f.toNat % 2 = 1 ∨ 2 ^ 15 ≤ f.toNat := by
  have hf := f.isLt
  have hstart : f.getLsbD 0 = decide (f.toNat % 2 = 1) := Nat.testBit_zero f.toNat
  have hstop : f.getLsbD 15 = decide (f.toNat / 2 ^ 15 % 2 = 1) := Nat.testBit_eq_decide_div_mod_eq
  rw [badFraming, hstart, hstop, Bool.or_eq_true, decide_eq_true_eq, decide_eq_true_eq]
  omega

theorem payloadOf_word_toNat (f : WireFrame) : (payloadOf .word f).toNat = f.toNat / 2 % 2 ^ 14 := by
  rw [payloadOf, BitVec.toNat_setWidth, frameWord, BitVec.extractLsb'_toNat, Nat.shiftRight_eq_div_pow]
  omega

theorem payloadOf_byte_toNat (f : WireFrame) : (payloadOf .byte f).toNat = f.toNat / 2 % 2 ^ 8 := by
  rw [payloadOf, BitVec.toNat_setWidth, frameByte, BitVec.extractLsb'_toNat, Nat.shiftRight_eq_div_pow]
  omega

/-- A byte frame in numbers: well framed, with its padding bits 14:9 at 0 (R103). -/
theorem byteFrameOk_iff (f : WireFrame) :
    byteFrameOk f = true ↔ badFraming f = false ∧ f.toNat / 2 ^ 9 % 2 ^ 6 = 0 := by
  have hword : wordFrameOk f = !badFraming f := by rw [wordFrameOk, badFraming, Bool.not_or]
  have hpad : f.extractLsb' 9 6 = 0#6 ↔ f.toNat / 2 ^ 9 % 2 ^ 6 = 0 := by
    rw [← BitVec.toNat_inj]
    simp [Nat.shiftRight_eq_div_pow]
  rw [byteFrameOk, hword, Bool.and_eq_true, Bool.not_eq_true', beq_iff_eq, hpad]

/-- A payload below 2^14 travels well framed (R103). -/
theorem badFraming_writeFrame {d : Arg} (h : d.toNat < 2 ^ 14) : badFraming (writeFrame d) = false := by
  rw [Bool.eq_false_iff, Ne, badFraming_iff, writeFrame_toNat (by omega)]
  omega

/-- Settles O5: a payload in range travels as its double (`writeFrame_toNat`), and the rest is said of every frame's
number. -/
theorem frameLayout : Obligations.FrameLayout := by
  unfold Obligations.FrameLayout
  refine ⟨fun d hd => ?_, fun d hd => ?_, fun f => ⟨badFraming_iff f, payloadOf_word_toNat f, payloadOf_byte_toNat f⟩⟩
  · have hframe := writeFrame_toNat (d := d) (by omega)
    refine ⟨hframe, badFraming_writeFrame hd, ?_⟩
    rw [payloadOf_word_toNat, hframe]
    omega
  · have hframe := writeFrame_toNat (d := d) (by omega)
    refine ⟨hframe, (byteFrameOk_iff _).mpr ⟨badFraming_writeFrame (by omega), ?_⟩, ?_⟩
    · rw [hframe]
      omega
    · rw [payloadOf_byte_toNat, hframe]
      omega

end Sys2Proof.Machine
end

section
/-! What the next step makes of bits that are placed or presented: a transaction, bits that are none, and an illegal request
(R91, R108, R221). -/

namespace Sys2Proof.Machine

/-- A process about to perform bits that are a transaction calls its instruction (assumption log 7). -/
theorem runMain_transact {e : Events} {s : State} {w : TransactionWord} {k : List Frame} {ins : Instr}
    (hm : s.main = some { point := .transact w, callers := k }) (hd : decodeTransaction w = .ok ins) :
    runMain e s = exec ins s := by
  unfold runMain
  rw [hm]
  dsimp only
  rw [hd]

/-- The one fault of the model: bits that are no transaction (assumption log 12). -/
theorem runMain_transact_illegal {e : Events} {s : State} {w : TransactionWord} {k : List Frame} {err : DecodeError}
    (hm : s.main = some { point := .transact w, callers := k }) (hd : decodeTransaction w = .error err) :
    runMain e s = .fault .illegalTransaction := by
  unfold runMain
  rw [hm]
  dsimp only
  rw [hd]

/-- Settles O17: a Busy engine accepts nothing, so without a label process step 7 is the placed transaction
(`runMain_transact`, `runMain_transact_illegal`). -/
theorem stepRunsPlacedTransaction : Obligations.StepRunsPlacedTransaction := by
  unfold Obligations.StepRunsPlacedTransaction
  intro s i w k hp hb hl hm
  have hstep : step (s.feed i) = afterOutcome (runMain (instantEvents i s) (arrived i s)) State.notify := by
    rw [step_plain hp, accept_of_not_idle (by rw [arrived_engine, hb]; decide),
      runProcesses_of_no_label _ i ((arrived_labelProc i s).trans hl)]
  have hma := (arrived_main i s).trans hm
  refine ⟨fun ins hd => ?_, fun e hd => ?_⟩
  · rw [hstep, runMain_transact hma hd]
  · rw [hstep, runMain_transact_illegal hma hd]
    rfl

/-- The model's check of a request word is the rule of R108 in numbers. -/
theorem requestIllegal_iff (q : RequestWord) : requestIllegal q = true ↔ illegalWord q := by
  have hop : ∀ op : BitVec 5, (op == 0#5 || (0x0A#5 ≤ op && op ≤ 0x0F#5)) =
      decide (op.toNat ∈ [0x00, 0x0A, 0x0B, 0x0C, 0x0D, 0x0E, 0x0F]) := by decide
  rw [illegalWord_iff, requestIllegal, hop, Bool.or_eq_true, bne_iff_ne, decide_eq_true_eq]

/-- An illegal request that is presented faults in its acceptance (R108, R221). -/
theorem accept_arrived_of_illegal {s : State} {i : Input} (hp : presented i s = true) (hq : illegalWord i.reqWord) :
    (arrived i s).accept (instantEvents i s) i =
      ({ arrived i s with req := i.reqWord, done := false } : State).raise .illegalRequest i.reqWord := by
  rcases accept_cases (instantEvents i s) i (arrived i s) with ⟨h, -⟩ | ⟨-, -, h⟩ | ⟨-, h, -⟩
  · rw [acceptable_arrived, hp] at h
    cases h
  · exact h
  · cases ((requestIllegal_iff _).mpr hq).symm.trans h

/-- Settles O20: acceptance raises the fault and ends both processes (`accept_arrived_of_illegal`), so step 7 does nothing;
every other register is as steps 2 to 5 left it. -/
theorem illegalRequestFaults : Obligations.IllegalRequestFaults := by
  unfold Obligations.IllegalRequestFaults
  intro s i hr hp hq
  have hregs := regsKept_arrived i s
  have hstep : step (s.feed i) = .next (({ arrived i s with req := i.reqWord, done := false } : State).raise
      .illegalRequest i.reqWord).notify := by
    rw [step_plain (plainInstant_of_presented hp hr), accept_arrived_of_illegal hp hq, runProcesses_none rfl rfl]
    rfl
  exact ⟨_, hstep, ⟨rfl, rfl, rfl, rfl, rfl⟩, rfl, rfl, arrived_pm i s, arrived_pwr i s, arrived_data i s,
    arrived_sen i s, arrived_ts i s, hregs.label, arrived_seq i s, hregs.cache, hregs.result⟩

end Sys2Proof.Machine
end

section
/-! A badly framed read and a timed rest as transfers under the LOCKED schedule (R104, R126). -/

namespace Sys2Proof.Machine

/-- A badly framed answer raises FRAME at the framing check, whoever called the read (R104, R143, R144). -/
theorem returnTo_checkFrame_bad {p : Payload} {k : List Frame} {f : WireFrame} (s : State) (hf : ¬ wellFramed f) :
    returnTo (.checkFrame p :: k) f s = s.raise .frame (f.setWidth 32) := by
  rw [returnTo]
  rcases checkFrameNext_cases p f s with ⟨hw, -⟩ | ⟨-, e⟩
  · exact absurd hw hf
  · rw [e]
    rfl

/-- Settles O34: the run up to the framing check (`run_read`), where the frame is refused
(`returnTo_checkFrame_bad`). -/
theorem readTransfersFault : Obligations.ReadTransfersFault := by
  unfold Obligations.ReadTransfersFault
  intro i s tr p ht hp ⟨hb, hdone, hk, hl, hclk⟩ ⟨hsen, hraw⟩
  refine ⟨_, exec_of_reads ht hp hk hl, fun is f hL hlen ha hf => ?_⟩
  obtain ⟨w, hw, -, hdata, hrun, -⟩ := run_read (h := true) (s := s.setLabelProc tr.process) (tr.code.setWidth 16) p
    (readers i tr) ⟨hclk, hraw⟩ nofun (by rw [State.setLabelProc_sen, hsen]; rfl) hb ha hL hlen
  obtain ⟨hcache, hresult, -, -, hreq, -⟩ := hw.registers
  refine ⟨_, hrun, ?_⟩
  rw [returnTo_checkFrame_bad w hf]
  have hwsen : w.sen = { cur := true, pend := none } := by
    rw [hw.sen, State.setLabelProc_sen, hsen, Line.commit_of_none]
  exact ⟨⟨rfl, rfl, rfl, rfl, rfl⟩, hdata, hwsen, hw.ts, hw.label.trans (process_publishes tr s.label), hresult,
    hw.done.trans hdone, hw.seq, hcache, hreq⟩

/-- A code and its timed rest, for any callers and any label process, from a tick of level `h`: the rest returns with the
strobe to be enabled again (R126, R128). -/
theorem run_timed {h : Bool} (v : WireFrame) (c : List Frame) {s : State} {is : List Input} (hs : s.levels h)
    (hg : h = false → s.gateOpen = false) (hsen : s.sen.settled = true) (hb : s.engine = .busy)
    (hL : lockedFrom h is = true) (hlen : is.length = 17 + h.toNat) :
    ∃ w : State, Rested (s.labelProc.publishes s.label) s w ∧ w.labelProc = s.labelProc.ended ∧
      runOn is (callSendBits v 6 (.timedRest 3 :: c) s).notify = .next (returnTo c 0#16 w).notify ∧
      sendsBits is (callSendBits v 6 (.timedRest 3 :: c) s).notify v 6 (1 + h.toNat) := by
  obtain ⟨as, bs, rfl, hlenA, hlenB, hLa, hLb⟩ := lockedFrom_split (n := 11 + h.toNat) (m := 6) hL (by omega)
  have hhigh : levelAfter h (11 + h.toNat) = true := by cases h <;> rfl
  rw [hhigh] at hLb
  obtain ⟨b, d, u, hb1, -, rfl, hcode, hbits⟩ := run_code v (.timedRest 3 :: c) hs hg hsen hb hLa hlenA
  obtain ⟨b', -, -, hrest⟩ := run_rest_three (c := c)
    (s := (returnTo (.timedRest 3 :: c) 0#16 (((s.published.later b).withData
      { cur := d, pend := some (v.getLsbD 5) }).setTs .tx)).notify)
    ⟨hb1, hb1⟩ rfl hb rfl (published_not_suspended s) hLb hlenB
  refine ⟨_, ?_, rfl, (runOn_append_next hcode bs).trans hrest, sendsBits_append_left (hbits rfl) (by omega) bs⟩
  exact ⟨Line.commit_commit _, Line.commit_commit _, rfl, rfl, rfl, rfl, rfl, rfl, ⟨rfl, rfl, rfl, rfl, rfl, rfl⟩⟩

/-- Settles O35: the code and the rest (`run_timed`), then the join (`returnTo_joins`). -/
theorem timedTransfersComplete : Obligations.TimedTransfersComplete := by
  unfold Obligations.TimedTransfersComplete
  intro i s tr ht hp ⟨hb, _, hk, hl, hclk⟩ ⟨hsen, hraw⟩
  refine ⟨_, exec_of_transfer ht (by simp [hp]) hk hl, rfl, fun is hL hlen => ?_⟩
  rw [hp]
  obtain ⟨w, hw, hwl, hrun, hsends⟩ := run_timed (h := true) (s := s.setLabelProc tr.process) (tr.code.setWidth 16)
    tr.joins ⟨hclk, hraw⟩ nofun (by rw [State.setLabelProc_sen, hsen]; rfl) hb hL hlen
  rw [returnTo_joins tr 0#16 hwl] at hrun
  obtain ⟨hcache, hresult, herr, hinfo, hreq, hparams⟩ := hw.registers
  exact ⟨hsends, _, hrun, ⟨rfl, rfl, rfl, rfl⟩, hw.data, hw.sen, hw.ts, hw.label.trans (process_publishes tr s.label),
    hresult, hw.pm, hw.pwr, hw.seq, hcache, herr, hinfo, hreq, hparams⟩

end Sys2Proof.Machine
end

section
/-! One instant of a rest, whoever called it and whatever its label process does (R126 to R130). -/

namespace Sys2Proof.Machine

/-- What an instant of a rest writes: `ts`, `data`, `sen`, the main process, `engine_state` and `done`. -/
def State.rested (ts : TransportState) (d l : Line) (m : Option Process) (g : EngineState) (b : Bool) (s : State) :
    State :=
  { s with ts := ts, data := d, sen := l, main := m, engine := g, done := b }

/-- The end of an instant in which a rest has written these, its label process having run too (R65, R68). -/
def restEnd (i : Input) (ts : TransportState) (d l : Line) (m : Option Process) (g : EngineState) (b : Bool)
    (s : State) : State :=
  (((arrived i s).rested ts d l m g b).runLabel (instantEvents i s)).notify

section restEnd

variable (i : Input) (ts : TransportState) (d l : Line) (m : Option Process) (g : EngineState) (b : Bool) (s : State)

@[simp] theorem restEnd_ts : (restEnd i ts d l m g b s).ts = ts := by simp [restEnd, State.rested]

@[simp] theorem restEnd_data : (restEnd i ts d l m g b s).data = d := by simp [restEnd, State.rested, runLabel_eq]

@[simp] theorem restEnd_sen : (restEnd i ts d l m g b s).sen = l := by simp [restEnd, State.rested, runLabel_eq]

@[simp] theorem restEnd_main : (restEnd i ts d l m g b s).main = m := by simp [restEnd, State.rested]

@[simp] theorem restEnd_engine : (restEnd i ts d l m g b s).engine = g := by simp [restEnd, State.rested, runLabel_eq]

@[simp] theorem restEnd_done : (restEnd i ts d l m g b s).done = b := by simp [restEnd, State.rested, runLabel_eq]

@[simp] theorem restEnd_clk : (restEnd i ts d l m g b s).clk = i.clk := by simp [restEnd, State.rested, runLabel_eq]

@[simp] theorem restEnd_rawStb : (restEnd i ts d l m g b s).rawStb = rawLevel s.params i := by
  simp [restEnd, State.rested, runLabel_eq]

@[simp] theorem restEnd_result : (restEnd i ts d l m g b s).result = s.result := by
  simpa [restEnd, State.rested, runLabel_eq] using (regsKept_arrived i s).result

/-- Everything else that moving bits leaves alone (R64). -/
theorem undisturbed_restEnd : undisturbed s (restEnd i ts d l m g b s) := by
  simpa [undisturbed, restEnd, State.rested, runLabel_eq] using (regsKept_arrived i s).cache

/-- Without a label to publish the label process has no part in it (R161). -/
theorem restEnd_of_not_waiting (h : s.labelProc.suspended = false) :
    restEnd i ts d l m g b s = ((arrived i s).rested ts d l m g b).notify := by
  have hw : ((arrived i s).rested ts d l m g b).labelProc.suspended = false := (arrived_labelProc i s).symm ▸ h
  rw [restEnd, runLabel_of_not_waiting hw]

/-- Without a label to publish the label process and `label` stay (R161). -/
theorem label_restEnd (h : s.labelProc.suspended = false) :
    (restEnd i ts d l m g b s).labelProc = s.labelProc ∧ (restEnd i ts d l m g b s).label = s.label := by
  rw [restEnd_of_not_waiting i ts d l m g b s h]
  exact ⟨arrived_labelProc i s, (regsKept_arrived i s).label⟩

end restEnd

/-- What steps 2 to 6 bring to a rest, its label process having run or not. -/
structure BroughtToRest (i : Input) (s t : State) : Prop where
  ts : t.ts = forcedTs i s
  data : t.data = s.data.commit
  sen : t.sen = s.sen.commit
  main : t.main = s.main
  engine : t.engine = .busy
  done : t.done = s.done

theorem broughtToRest_arrived {s : State} (i : Input) (hb : s.engine = .busy) : BroughtToRest i s (arrived i s) :=
  ⟨arrived_ts i s, arrived_data i s, arrived_sen i s, arrived_main i s, (arrived_engine i s).trans hb,
    (regsKept_arrived i s).done⟩

theorem BroughtToRest.runLabel {i : Input} {s t : State} (h : BroughtToRest i s t) (e : Events) :
    BroughtToRest i s (t.runLabel e) := by
  rw [runLabel_eq]
  exact ⟨h.ts, h.data, h.sen, h.main, h.engine, h.done⟩

/-- `rest` goes on at its first clock rise (R67, R126). -/
theorem resume_restFirst {i : Input} {s : State} (n : Nat) (c : List Frame) (t : State)
    (h : (levelEvents s i).clkRise = true) :
    resume (instantEvents i s) { point := .restFirst n, callers := c } t =
      (restLoopFrom n 1 c ((t.setTs .rest).writeData false)).andThen (returnTo c) := if_pos h

/-- `rest` goes on at a clock rise of its loop (R67, R126). -/
theorem resume_restLoop {i : Input} {s : State} (n j : Nat) (c : List Frame) (t : State)
    (h : (levelEvents s i).clkRise = true) :
    resume (instantEvents i s) { point := .restLoop n j, callers := c } t =
      (restLoopFrom n (j + 1) c t).andThen (returnTo c) := if_pos h

/-- A clock rise without a reset is a plain instant. -/
theorem plainInstant_of_clkRise {i : Input} {s : State} (he : (levelEvents s i).clkRise = true) (hr : i.rst = false) :
    plainInstant i s = true := by
  simp [plainInstant, Events.any, he, hr]

section instantOfRest

variable {s : State} {i : Input} (hp : plainInstant i s = true) (hb : s.engine = .busy)
include hp hb

/-- An instant of a rest that stays in itself or ends the request, by what its process does to what steps 2 to 6
bring. -/
theorem step_rest {p : Process} {ts : TransportState} {d l : Line} {m : Option Process} {g : EngineState} {b : Bool}
    (hm : s.main = some p) (hc : p.point.callee = .rest) (hv : ∀ q, m = some q → q.point.callee ≠ .verb)
    (hres : ∀ t, BroughtToRest i s t → resume (instantEvents i s) p t = t.rested ts d l m g b) :
    step (s.feed i) = .next (restEnd i ts d l m g b s) := by
  have hfirst := hres _ (broughtToRest_arrived i hb)
  have hafter := hres _ ((broughtToRest_arrived i hb).runLabel (instantEvents i s))
  rw [step_suspended hp hb hm (by simp [hc]),
    processed_of_commutes hfirst (by rw [hafter, runLabel_eq, runLabel_eq]; rfl) rfl hv]
  rfl

/-- Without a clock rise a rest waits (R67). -/
theorem step_rest_waits {p : Process} (hm : s.main = some p) (hc : p.point.callee = .rest)
    (he : (levelEvents s i).clkRise = false) :
    step (s.feed i) = .next (restEnd i (forcedTs i s) s.data.commit s.sen.commit (some p) .busy s.done s) := by
  refine step_rest hp hb hm hc (fun q hq => by cases hq; simp [hc]) fun t h => ?_
  have hstays : resume (instantEvents i s) p t = t := by
    obtain ⟨pt, k⟩ := p
    cases pt <;> cases hc <;> exact if_neg (Bool.eq_false_iff.mp he)
  rw [hstays, ← h.ts, ← h.data, ← h.sen, ← hm, ← h.main, ← h.engine, ← h.done]
  rfl

/-- The first clock rise of a rest of two or more cycles (R126). -/
theorem step_restFirst_more {n : Nat} {c : List Frame} (hm : s.main = some { point := .restFirst n, callers := c })
    (he : (levelEvents s i).clkRise = true) (hn : 2 ≤ n) :
    step (s.feed i) = .next (restEnd i .rest { cur := s.data.settled, pend := some false } s.sen.commit
      (some { point := .restLoop n 1, callers := c }) .busy s.done s) := by
  refine step_rest hp hb hm rfl (by simp [Point.callee]) fun t h => ?_
  rw [resume_restFirst n c t he, restLoopFrom_waits c (by omega) rfl, ← Line.write_commit, ← h.data, ← h.sen,
    ← h.engine, ← h.done]
  rfl

/-- The only clock rise of a bare rest of one cycle (R126, R128, R130). -/
theorem step_restFirst_one (hm : s.main = some { point := .restFirst 1, callers := [] })
    (he : (levelEvents s i).clkRise = true) :
    step (s.feed i) = .next (restEnd i .rest { cur := s.data.settled, pend := some false }
      { cur := s.sen.settled, pend := some true } none .idle true s) := by
  refine step_rest hp hb hm rfl nofun fun t h => ?_
  rw [resume_restFirst 1 [] t he, restLoopFrom_ends [] (.inl (by omega)), ← Line.write_commit, ← Line.write_commit,
    ← h.data, ← h.sen]
  rfl

/-- A check that passes: the rest goes on to its next cycle (R126, R127). -/
theorem step_restLoop_more {n j : Nat} {c : List Frame} (hm : s.main = some { point := .restLoop n j, callers := c })
    (he : (levelEvents s i).clkRise = true) (hj : j + 1 < n) (hts : forcedTs i s = .rest) :
    step (s.feed i) = .next (restEnd i .rest s.data.commit s.sen.commit
      (some { point := .restLoop n (j + 1), callers := c }) .busy s.done s) := by
  refine step_rest hp hb hm rfl (by simp [Point.callee]) fun t h => ?_
  rw [resume_restLoop n j c t he, restLoopFrom_waits c (by omega) (h.ts.trans hts), ← hts, ← h.ts, ← h.data,
    ← h.sen, ← h.engine, ← h.done]
  rfl

/-- A bare rest leaves its loop: its last cycle is over, or its check fails (R126 to R128). -/
theorem step_restLoop_last {n j : Nat} (hm : s.main = some { point := .restLoop n j, callers := [] })
    (he : (levelEvents s i).clkRise = true) (hend : n ≤ j + 1 ∨ forcedTs i s ≠ .rest) :
    step (s.feed i) = .next (restEnd i (forcedTs i s) s.data.commit { cur := s.sen.settled, pend := some true } none
      .idle true s) := by
  refine step_rest hp hb hm rfl nofun fun t h => ?_
  rw [resume_restLoop n j [] t he, restLoopFrom_ends [] (hend.imp (by omega) (h.ts ▸ ·)), ← Line.write_commit,
    ← h.ts, ← h.data, ← h.sen]
  rfl

/-- The rest of a verb whose label is published leaves its loop: the verb joins and its request ends (R128, R161,
R223). -/
theorem step_restLoop_joins {n j : Nat} (hm : s.main = some { point := .restLoop n j, callers := [.join] })
    (hl : s.labelProc = .finished) (he : (levelEvents s i).clkRise = true)
    (hend : n ≤ j + 1 ∨ forcedTs i s ≠ .rest) :
    step (s.feed i) = .next ((restEnd i (forcedTs i s) s.data.commit { cur := s.sen.settled, pend := some true } none
      .idle true s).setLabelProc .idle) := by
  have h := broughtToRest_arrived i hb
  have hla : (arrived i s).labelProc = .finished := (arrived_labelProc i s).trans hl
  have hw : (arrived i s).labelProc.suspended = false := by rw [hla]; rfl
  rw [step_suspended hp hb hm (by simp [Point.callee]), processed_of_not_suspended hw, resume_restLoop n j _ _ he,
    restLoopFrom_ends _ (hend.imp (by omega) (h.ts ▸ ·)), restEnd_of_not_waiting _ _ _ _ _ _ _ _ (by rw [hl]; rfl),
    ← Line.write_commit, ← h.ts, ← h.data, ← h.sen]
  exact congrArg (fun t => Host.Outcome.next t.notify)
    (returnTo_join (k := []) (s := (arrived i s).writeSen true) hla fun _ _ e => nomatch e)

end instantOfRest

/-- Settles O26: a wait (`step_rest_waits`), the first edge (`step_restFirst_more`, `step_restFirst_one`), a check
(`step_restLoop_more`), and the exits of a bare REST and of a verb (`step_restLoop_last`, `step_restLoop_joins`). -/
theorem restInstant : Obligations.RestInstant := by
  unfold Obligations.RestInstant
  intro s i n hp hb
  refine ⟨fun p hm hc he => ?_, fun c hm he hn => ?_, fun hm he hn => ?_, fun c j hm he hj hts => ?_,
    fun j hm he hend => ?_, fun j hm hl he hend => ?_⟩
  · exact ⟨_, step_rest_waits hp hb hm hc he, by simp [undisturbed_restEnd]⟩
  · exact ⟨_, step_restFirst_more hp hb hm he hn, by simp [undisturbed_restEnd]⟩
  · subst hn
    exact ⟨_, step_restFirst_one hp hb hm he, by simp [undisturbed_restEnd]⟩
  · exact ⟨_, step_restLoop_more hp hb hm he hj hts, by simp [undisturbed_restEnd]⟩
  · exact ⟨_, step_restLoop_last hp hb hm he hend, by simp [undisturbed_restEnd]⟩
  · obtain ⟨-, hlabel⟩ := label_restEnd i (forcedTs i s) s.data.commit { cur := s.sen.settled, pend := some true } none
      .idle true s (by rw [hl]; rfl)
    refine ⟨_, step_restLoop_joins hp hb hm hl he hend, ?_, ?_, ?_, ?_, hlabel, undisturbed_restEnd ..⟩
    · simp [completed]
    · simp
    · simp
    · simp

/-- Settles O27: a rest of no cycle returns at once (`callRest_zero`), and with no caller its request ends (R223). -/
theorem restZeroDoesNothing : Obligations.RestZeroDoesNothing := by
  unfold Obligations.RestZeroDoesNothing
  intro s hk
  show Host.Outcome.next ((callRest 0 s.callers s).andThen (returnTo s.callers)) = _
  rw [callRest_zero, hk]
  rfl

end Sys2Proof.Machine
end

section
/-! The step answers a next state from every state of the invariant (R122, R253, R262). -/

namespace Sys2Proof.Machine

/-- Step 7 of a sound state answers: its main process, if there is one, is suspended, so it is about to perform no
transaction (assumption log 12). -/
theorem runProcesses_answers {s : State} (e : Events) (i : Input) (h : s.Sound) :
    ∃ t, runProcesses e i s = .next t := by
  cases hm : s.main with
  | none => exact ⟨s, runProcesses_none hm ((mainOk_none hm).mp h.1).2⟩
  | some p =>
    obtain ⟨-, hp⟩ := (mainOk_some hm).mp h.1
    obtain ⟨-, hin, -⟩ := (processOk_iff _ _ _).mp hp
    exact ⟨_, runProcesses_suspended e i hm (callee_ne_request_of_inRange hin)⟩

/-- A process about to dispatch answers: every instruction has a meaning, and an illegal word faults the engine
(R222). -/
theorem runMain_dispatch_answers {e : Events} {s : State} {k : List Frame}
    (hm : s.main = some { point := .dispatch, callers := k }) : ∃ t, runMain e s = .next t := by
  unfold runMain
  rw [hm]
  dsimp only
  cases decodeRequest s.req with
  | ok ins =>
    obtain ⟨t, ht, -⟩ := exec_busKept ins s
    exact ⟨t, ht⟩
  | error err => exact ⟨_, rfl⟩

/-- An instant from a state that meets the invariant answers, whatever its input (R60, R65, R227). -/
theorem instant_answers {s : State} (i : Input) (h : invariant s = true) : ∃ t, instant i s = .next t := by
  obtain ⟨hs, -, -⟩ := (invariant_iff s).mp h
  have hrun : ∃ t, runProcesses (instantEvents i s) i (beforeProcesses i s) = .next t := by
    rcases accept_sound (instantEvents i s) i (sound_before_accept i hs) with ha | ⟨hl, hm⟩
    · exact runProcesses_answers _ i ha
    · obtain ⟨t, ht⟩ := runMain_dispatch_answers (e := instantEvents i s) hm
      exact ⟨t, (runProcesses_of_no_label _ i (by unfold beforeProcesses; simpa using hl.label)).trans ht⟩
  unfold instant
  split
  · exact ⟨_, rfl⟩
  · split
    · exact ⟨_, rfl⟩
    · obtain ⟨t, ht⟩ := hrun
      exact ⟨t.notify, by rw [ht]; rfl⟩

/-- Settles O59: a step is the instant that the environment's input makes (`instant_answers`). -/
theorem stepAlwaysAnswers : Obligations.StepAlwaysAnswers := by
  unfold Obligations.StepAlwaysAnswers
  intro s h
  exact instant_answers s.nextInput (s := s.consume) h

end Sys2Proof.Machine
end

section
/-! A rest under every interleaving of the edges (R4, R126 to R130, R226): from one clock rise to the next, with the forces
that come meanwhile, alone and after the code of a verb. -/

namespace Sys2Proof.Machine

/-! ### Clock rises and forces over inputs -/

/-- The input with the clock's level on the raw strobe, so that the strobe's rises are the clock's. -/
def Input.clockAsStrobe (i : Input) : Input := { i with rawStb := i.clk }

theorem strobeRises_clockAsStrobe (c : Bool) (is : List Input) :
    strobeRises c (is.map Input.clockAsStrobe) = clockRises c is := by
  induction is generalizing c with
  | nil => rfl
  | cons i is ih => exact congrArg _ (ih i.clk)

theorem endsAtStrobe_clockAsStrobe {c : Bool} {n : Nat} {is : List Input} :
    endsAtStrobe c n (is.map Input.clockAsStrobe) ↔ endsAtRise c n is := by
  unfold endsAtStrobe endsAtRise
  rw [← List.map_dropLast, strobeRises_clockAsStrobe, strobeRises_clockAsStrobe]

/-- The first of the inputs that bring the clock's rise number `r + 1`: it is that rise, or an earlier one, or none. -/
theorem endsAtRise_cons {c : Bool} {r : Nat} {i : Input} {is : List Input} (h : endsAtRise c (r + 1) (i :: is)) :
    ((!c && i.clk) = true ∧ is = [] ∧ r = 0) ∨
    ((!c && i.clk) = true ∧ ∃ r', r = r' + 1 ∧ endsAtRise i.clk (r' + 1) is) ∨
    ((!c && i.clk) = false ∧ endsAtRise i.clk (r + 1) is) := by
  simpa [endsAtStrobe_clockAsStrobe, Input.clockAsStrobe] using endsAtStrobe_cons (endsAtStrobe_clockAsStrobe.mpr h)

/-- Inputs to a later rise of the clock are those to the next rise and those from there on. -/
theorem endsAtRise_split {r : Nat} (is : List Input) : ∀ {c : Bool}, endsAtRise c (r + 2) is →
    ∃ first later, is = first ++ later ∧ endsAtRise c 1 first ∧ endsAtRise true (r + 1) later := by
  induction is with
  | nil => intro c h; exact absurd h.1 (by simp [clockRises])
  | cons i is ih =>
    intro c h
    rcases endsAtRise_cons h with ⟨-, -, hr⟩ | ⟨hrise, r', hr, hlater⟩ | ⟨hquiet, hlater⟩
    · omega
    · obtain rfl : r' = r := by omega
      obtain ⟨rfl, hclk⟩ : c = false ∧ i.clk = true := by simpa using hrise
      exact ⟨[i], is, rfl, by simp [endsAtRise, clockRises, hclk], hclk ▸ hlater⟩
    · obtain ⟨first, later, rfl, ⟨h1, h2⟩, hl⟩ := ih hlater
      refine ⟨i :: first, later, rfl, ?_, hl⟩
      cases first with
      | nil => cases h1
      | cons j js =>
        refine ⟨?_, ?_⟩
        · rwa [clockRises, hquiet, if_neg Bool.false_ne_true, Nat.zero_add]
        · rwa [List.dropLast_cons_cons, clockRises, hquiet, if_neg Bool.false_ne_true, Nat.zero_add]

theorem endsAtRise_ne_nil {c : Bool} {r : Nat} {is : List Input} (h : endsAtRise c (r + 1) is) : is ≠ [] := by
  rintro rfl
  cases h.1

/-- TransportState after the forces of these inputs, from the present state (R226). -/
def State.tsAfter (is : List Input) (s : State) : TransportState := tsThrough s.params s.clk s.rawStb s.ts is

/-- The checks of a rest at the clock rises of these inputs pass, from the present state (R127). -/
def State.passes (is : List Input) (s : State) : Bool := restHolds s.params s.clk s.rawStb s.ts is

theorem tsAfter_of_edge {i : Input} {s : State} (h : (levelEvents s i).any = true) : s.tsAfter [i] = forcedTs i s :=
  tsThrough_edge [] h

theorem tsAfter_of_no_edge {i : Input} {s : State} (h : (levelEvents s i).any = false) :
    i.clk = s.clk ∧ rawLevel s.params i = s.rawStb ∧ s.tsAfter [i] = s.ts := by
  have hlevels : i.clk = s.clk ∧ rawLevel s.params i = s.rawStb := by
    revert h
    simp only [levelEvents, Events.any]
    cases i.clk <;> cases s.clk <;> cases rawLevel s.params i <;> cases s.rawStb <;> decide
  exact ⟨hlevels.1, hlevels.2, by simp [State.tsAfter, tsThrough, hlevels]⟩

/-- What the input `i` leaves of the levels and of TransportState, if nothing but its force writes it. -/
structure Follows (i : Input) (s t : State) : Prop where
  params : t.params = s.params
  clk : t.clk = i.clk
  rawStb : t.rawStb = rawLevel s.params i
  ts : t.ts = s.tsAfter [i]

theorem Follows.tsAfter_cons {i : Input} {s t : State} (h : Follows i s t) (is : List Input) :
    s.tsAfter (i :: is) = t.tsAfter is := by
  unfold State.tsAfter
  rw [h.params, h.clk, h.rawStb, h.ts]
  rfl

theorem Follows.passes_cons {i : Input} {s t : State} (h : Follows i s t) (is : List Input) :
    s.passes (i :: is) = ((s.clk || !i.clk || s.tsAfter [i] == .rest) && t.passes is) := by
  unfold State.passes
  rw [h.params, h.clk, h.rawStb, h.ts]
  rfl

theorem forceOn_of_no_force {i : Input} (h : i.tsForceValid = false) (p : Params) (ts : TransportState) :
    forceOn p i ts = ts := by
  rw [forceOn, h, Bool.and_false]
  rfl

/-- Without a force TransportState stays (R226). -/
theorem tsThrough_of_noForce (p : Params) (ts : TransportState) (is : List Input) :
    ∀ c r, noForce is = true → tsThrough p c r ts is = ts := by
  induction is with
  | nil => intro _ _ _; rfl
  | cons i is ih =>
    intro c r h
    obtain ⟨hi, his⟩ := Bool.and_eq_true_iff.mp h
    rw [tsThrough, forceOn_of_no_force (by simpa using hi), ite_self]
    exact ih _ _ his

/-- Without a force every check of a rest passes (R127). -/
theorem restHolds_of_noForce (p : Params) (is : List Input) :
    ∀ c r, noForce is = true → restHolds p c r .rest is = true := by
  induction is with
  | nil => intro _ _ _; rfl
  | cons i is ih =>
    intro c r h
    obtain ⟨hi, his⟩ := Bool.and_eq_true_iff.mp h
    simp [restHolds, forceOn_of_no_force (p := p) (ts := .rest) (show i.tsForceValid = false by simpa using hi),
      ih _ _ his]

theorem noForce_append {as bs : List Input} (h : noForce (as ++ bs) = true) :
    noForce as = true ∧ noForce bs = true := by
  simpa only [noForce, List.all_append, Bool.and_eq_true] using h

theorem noReset_append {as bs : List Input} (h : noReset (as ++ bs) = true) :
    noReset as = true ∧ noReset bs = true := by
  simpa only [noReset, List.all_append, Bool.and_eq_true] using h

/-! ### A rest in progress -/

/-- The main process is in a rest at `pt`, called for `c` with no label left to publish, and has left the registers of `s₀`
alone; the strobe is disabled, and after the first clock rise `data` is cleared (R126). -/
structure Resting (pt : Point) (c : List Frame) (s₀ s : State) : Prop where
  busy : s.engine = .busy
  main : s.main = some { point := pt, callers := c }
  rest : pt.callee = .rest
  quiet : s.labelProc.suspended = false
  labelProc : s.labelProc = s₀.labelProc
  label : s.label = s₀.label
  result : s.result = s₀.result
  sen : s.sen.settled = false
  data : (∃ n j, pt = .restLoop n j) → s.data.settled = false
  kept : undisturbed s₀ s.commit

section resting

variable {pt : Point} {c : List Frame} {s₀ s : State}

/-- An instant that leaves the process in the same rest. -/
theorem resting_restEnd (h : Resting pt c s₀ s) (i : Input) (ts : TransportState) {pt' : Point} {d : Line}
    (hpt : pt'.callee = .rest) (hd : (∃ n j, pt' = .restLoop n j) → d.settled = false) :
    Resting pt' c s₀ (restEnd i ts d s.sen.commit (some { point := pt', callers := c }) .busy s.done s) := by
  obtain ⟨hproc, hlabel⟩ := label_restEnd i ts d s.sen.commit (some { point := pt', callers := c }) .busy s.done s h.quiet
  exact {
    busy := restEnd_engine ..
    main := restEnd_main ..
    rest := hpt
    quiet := hproc ▸ h.quiet
    labelProc := hproc.trans h.labelProc
    label := hlabel.trans h.label
    result := (restEnd_result ..).trans h.result
    sen := by rw [restEnd_sen, Line.settled_commit, h.sen]
    data := fun hl => by rw [restEnd_data, hd hl]
    kept := undisturbed_commit (undisturbed_trans h.kept (undisturbed_restEnd ..)) }

theorem follows_restEnd {i : Input} {ts : TransportState} (hts : ts = s.tsAfter [i]) (d l : Line) (m : Option Process)
    (g : EngineState) (b : Bool) : Follows i s (restEnd i ts d l m g b s) := by
  obtain ⟨-, -, -, -, -, -, -, hparams⟩ := undisturbed_restEnd i ts d l m g b s
  exact ⟨hparams, restEnd_clk .., restEnd_rawStb .., (restEnd_ts ..).trans hts⟩

/-- A step without a clock rise waits, and a force may act on TransportState (R67, R226). -/
theorem step_resting_waits (h : Resting pt c s₀ s) {i : Input} (hr : i.rst = false)
    (he : (levelEvents s i).clkRise = false) :
    ∃ t, step (s.feed i) = .next t ∧ Resting pt c s₀ t ∧ Follows i s t := by
  cases hany : (levelEvents s i).any with
  | false =>
    obtain ⟨hclk, hraw, hts⟩ := tsAfter_of_no_edge hany
    exact ⟨_, step_of_no_edge hany, ⟨h.busy, h.main, h.rest, h.quiet, h.labelProc, h.label, h.result, h.sen, h.data, h.kept⟩,
      rfl, hclk.symm, hraw.symm, hts.symm⟩
  | true =>
    exact ⟨_, step_rest_waits (by simp [plainInstant, hany, hr]) h.busy h.main h.rest he,
      resting_restEnd h i _ h.rest fun hl => by rw [Line.settled_commit, h.data hl],
      follows_restEnd (tsAfter_of_edge hany).symm ..⟩

/-- THE RUN TO THE NEXT CLOCK RISE: its last input brings that rise to the rest, which has waited until then, and the forces
of the inputs have been those of TransportState (R67, R226). -/
theorem run_to_rise (is : List Input) : ∀ {s : State}, Resting pt c s₀ s → noReset is = true → endsAtRise s.clk 1 is →
    ∃ (u : State) (i : Input), runOn is s = step (u.feed i) ∧ Resting pt c s₀ u ∧ i.rst = false ∧
      (levelEvents u i).clkRise = true ∧ is.getLast? = some i ∧
      ∀ js, s.tsAfter (is ++ js) = u.tsAfter (i :: js) ∧ s.passes (is ++ js) = u.passes (i :: js) := by
  induction is with
  | nil => intro s _ _ he; exact absurd rfl (endsAtRise_ne_nil he)
  | cons i is ih =>
    intro s h hr he
    obtain ⟨hi, his⟩ := Bool.and_eq_true_iff.mp hr
    rw [Bool.not_eq_true'] at hi
    rcases endsAtRise_cons he with ⟨hrise, rfl, -⟩ | ⟨-, r', hr', -⟩ | ⟨hquiet, hlater⟩
    · exact ⟨s, i, runOn_singleton i s, h, hi, hrise, rfl, fun js => ⟨rfl, rfl⟩⟩
    · omega
    · obtain ⟨t, hstep, ht, hf⟩ := step_resting_waits h hi hquiet
      obtain ⟨u, j, hrun, hu, hj, hrise, hlast, hforces⟩ := ih ht his (by rwa [hf.clk])
      refine ⟨u, j, (runOn_cons_next hstep).trans hrun, hu, hj, hrise, by simp [List.getLast?_cons, hlast], fun js => ?_⟩
      obtain ⟨hts, hpass⟩ := hforces js
      refine ⟨(hf.tsAfter_cons _).trans hts, (hf.passes_cons (is ++ js)).trans ?_⟩
      have hno : (s.clk || !i.clk) = true := by rw [← Bool.not_eq_false', Bool.not_or, Bool.not_not]; exact hquiet
      rw [hno, Bool.true_or, Bool.true_and, hpass]

/-- A clock rise is an edge, so a force acts at it. -/
theorem tsAfter_of_clkRise {i : Input} (he : (levelEvents s i).clkRise = true) : s.tsAfter [i] = forcedTs i s :=
  tsAfter_of_edge (by simp [Events.any, he])

theorem clk_of_clkRise {i : Input} (he : (levelEvents s i).clkRise = true) : s.clk = false ∧ i.clk = true := by
  simpa [levelEvents] using he

/-- The run of a rest of two or more cycles to its first clock rise, which writes Rest over any force and clears `data`
(R126). -/
theorem run_restFirst {n : Nat} {is : List Input} (h : Resting (.restFirst n) c s₀ s) (hn : 2 ≤ n)
    (hr : noReset is = true) (he : endsAtRise s.clk 1 is) :
    ∃ v, runOn is s = .next v ∧ Resting (.restLoop n 1) c s₀ v ∧ v.ts = .rest ∧ v.clk = true ∧
      ∃ i, is.getLast? = some i ∧ v.rawStb = rawLevel v.params i := by
  obtain ⟨u, i, hrun, hu, hi, hrise, hlast, -⟩ := run_to_rise is h hr he
  have hstep := step_restFirst_more (plainInstant_of_clkRise hrise hi) hu.busy hu.main hrise hn
  refine ⟨_, hrun.trans hstep, resting_restEnd hu i .rest rfl fun _ => rfl, restEnd_ts .., ?_, i, hlast, ?_⟩
  · rw [restEnd_clk, (clk_of_clkRise hrise).2]
  · obtain ⟨-, -, -, -, -, -, -, hparams⟩ := undisturbed_restEnd i .rest { cur := u.data.settled, pend := some false }
      u.sen.commit (some { point := .restLoop n 1, callers := c }) .busy u.done u
    rw [restEnd_rawStb, hparams]

/-- The run of a rest through `m` checks that pass, to the clock rise after them (R126, R127). -/
theorem run_restLoop {n : Nat} (m : Nat) : ∀ {j : Nat} {s : State} {is : List Input}, Resting (.restLoop n j) c s₀ s →
    noReset is = true → endsAtRise s.clk (m + 1) is → s.passes is.dropLast = true → j + m < n →
    ∃ (u : State) (i : Input), runOn is s = step (u.feed i) ∧ Resting (.restLoop n (j + m)) c s₀ u ∧ i.rst = false ∧
      (levelEvents u i).clkRise = true ∧ forcedTs i u = s.tsAfter is := by
  induction m with
  | zero =>
    intro j s is h hr he _ _
    obtain ⟨u, i, hrun, hu, hi, hrise, -, hforces⟩ := run_to_rise is h hr he
    refine ⟨u, i, hrun, hu, hi, hrise, ?_⟩
    rw [← tsAfter_of_clkRise hrise, ← (hforces []).1, List.append_nil]
  | succ m ih =>
    intro j s is h hr he hpass hj
    obtain ⟨first, later, rfl, hfirst, hlater⟩ := endsAtRise_split is he
    obtain ⟨hr1, hr2⟩ := noReset_append hr
    obtain ⟨u, i, hrun, hu, hi, hrise, -, hforces⟩ := run_to_rise first h hr1 hfirst
    obtain ⟨hlow, hclk⟩ := clk_of_clkRise hrise
    rw [List.dropLast_append_of_ne_nil (endsAtRise_ne_nil hlater), (hforces _).2] at hpass
    have hf : ∀ ts, ts = u.tsAfter [i] → Follows i u (restEnd i ts u.data.commit u.sen.commit
        (some { point := .restLoop n (j + 1), callers := c }) .busy u.done u) := fun ts hts => follows_restEnd hts ..
    obtain ⟨hts, hpass'⟩ := Bool.and_eq_true_iff.mp (((hf _ rfl).passes_cons _).symm.trans hpass)
    have hrest : u.tsAfter [i] = .rest := by simpa [hlow, hclk] using hts
    rw [hrest] at hpass'
    have hstep := step_restLoop_more (plainInstant_of_clkRise hrise hi) hu.busy hu.main hrise (by omega)
      ((tsAfter_of_clkRise hrise).symm.trans hrest)
    obtain ⟨w, k, hrun', hw, hk, hrise', hts'⟩ := ih
      (resting_restEnd hu i .rest rfl fun _ => by rw [Line.settled_commit, hu.data ⟨n, j, rfl⟩]) hr2
      (by rwa [restEnd_clk, hclk]) hpass' (by omega)
    refine ⟨w, k, (runOn_append_next (hrun.trans hstep) later).trans hrun', ?_, hk, hrise', ?_⟩
    · rwa [show j + (m + 1) = j + 1 + m by omega]
    · rw [hts', (hforces later).1, (hf _ hrest.symm).tsAfter_cons]

/-- What a rest of two or more cycles leaves of the state `s₀` before it, when its request has completed with TransportState
at `ts` (R128, R223). -/
structure RestOver (ts : TransportState) (s₀ u : State) : Prop where
  completed : completed u
  data : u.data = { cur := false, pend := none }
  sen : u.sen = { cur := false, pend := some true }
  ts : u.ts = ts
  label : u.label = s₀.label
  result : u.result = s₀.result
  kept : undisturbed s₀ u

/-- A return to `c` ends the request: nothing waits for it, or the join of a verb whose label has been published (R161,
R223). -/
def EndsRequest (c : List Frame) (l : LabelProcess) : Prop :=
  c = [] ∧ l = .idle ∨ c = [.join] ∧ l = .finished

/-- The clock rise that ends a rest in its loop, of a bare REST or of a verb whose label is published. -/
theorem step_resting_ends {n j : Nat} (h : Resting (.restLoop n j) c s₀ s)
    (hc : EndsRequest c s₀.labelProc) {i : Input} (hi : i.rst = false)
    (he : (levelEvents s i).clkRise = true) (hend : n ≤ j + 1 ∨ forcedTs i s ≠ .rest) :
    ∃ t, step (s.feed i) = .next t ∧ RestOver (forcedTs i s) s₀ t := by
  have hp := plainInstant_of_clkRise he hi
  obtain ⟨hproc, hlabel⟩ := label_restEnd i (forcedTs i s) s.data.commit { cur := s.sen.settled, pend := some true } none
    .idle true s h.quiet
  have hdata : s.data.commit = { cur := false, pend := none } := by rw [Line.commit_settled, h.data ⟨n, j, rfl⟩]
  have hover : ∀ {t : State}, completed t → t.label = s.label → t.result = s.result → undisturbed s t →
      t.data = s.data.commit → t.sen = { cur := s.sen.settled, pend := some true } → t.ts = forcedTs i s →
      RestOver (forcedTs i s) s₀ t := fun hcomp hlab hres hund hd hsen hts =>
    ⟨hcomp, hd.trans hdata, by rw [hsen, h.sen], hts, hlab.trans h.label, hres.trans h.result,
      undisturbed_trans h.kept hund⟩
  rcases hc with ⟨rfl, hl⟩ | ⟨rfl, hl⟩
  · refine ⟨_, step_restLoop_last hp h.busy h.main he hend, hover ?_ hlabel (restEnd_result ..) (undisturbed_restEnd ..)
      (restEnd_data ..) (restEnd_sen ..) (restEnd_ts ..)⟩
    exact ⟨restEnd_engine .., restEnd_done .., restEnd_main .., hproc.trans (h.labelProc.trans hl)⟩
  · refine ⟨_, step_restLoop_joins hp h.busy h.main (h.labelProc.trans hl) he hend, hover ?_ hlabel (restEnd_result ..)
      (undisturbed_restEnd ..) (restEnd_data ..) (restEnd_sen ..) (restEnd_ts ..)⟩
    exact ⟨restEnd_engine .., restEnd_done .., restEnd_main .., rfl⟩

/-- THE EARLY EXIT AND THE LAST CYCLE: from its iteration `j` on, a rest ends at its `m`-th clock rise, if the checks before
it pass and that rise is the last or its check fails (R126 to R128, R226). -/
theorem run_resting_ends {n j m : Nat} {is : List Input} (h : Resting (.restLoop n j) c s₀ s)
    (hc : EndsRequest c s₀.labelProc) (hm : 1 ≤ m)
    (hr : noReset is = true) (he : endsAtRise s.clk m is) (hpass : s.passes is.dropLast = true)
    (hend : m + j = n ∨ (m + j < n ∧ s.tsAfter is ≠ .rest)) :
    ∃ u, runOn is s = .next u ∧ RestOver (s.tsAfter is) s₀ u := by
  obtain ⟨m, rfl⟩ : ∃ m', m = m' + 1 := ⟨m - 1, by omega⟩
  obtain ⟨u, i, hrun, hu, hi, hrise, hts⟩ := run_restLoop m h hr he hpass (by omega)
  obtain ⟨t, hstep, ht⟩ := step_resting_ends hu hc hi hrise
    (hend.imp (fun h => by omega) (fun h => by rw [hts]; exact h.2))
  exact ⟨t, hrun.trans hstep, hts ▸ ht⟩

end resting

/-! ### REST -/

/-- The call of a REST of one or more cycles, at a high clock (R126). -/
theorem exec_rest {s : State} {n : Arg} (hc : calling s) (hn : 1 ≤ n.toNat) :
    exec (.rest n) s = .next ((s.writeSen false).suspend (.restFirst n.toNat) []) := by
  obtain ⟨-, -, hk, -, -⟩ := hc
  show Host.Outcome.next ((callRest n.toNat s.callers s).andThen (returnTo s.callers)) = _
  rw [callRest_pos _ s hn, hk]
  rfl

theorem resting_call {s : State} (n : Nat) (hc : calling s) :
    Resting (.restFirst n) [] s ((s.writeSen false).suspend (.restFirst n) []).notify := by
  obtain ⟨hb, -, -, hl, -⟩ := hc
  have hquiet : s.labelProc.suspended = false := by rw [hl]; rfl
  exact ⟨hb, rfl, rfl, hquiet, rfl, rfl, rfl, rfl, nofun, rfl, rfl, rfl, rfl, rfl, rfl, rfl, rfl⟩

/-- Settles O28: for one cycle the first clock rise ends it (`step_restFirst_one`); for more it is the run to the first rise
(`run_restFirst`) and, every check passing without a force, from there to the last (`run_resting_ends`). -/
theorem restCompletes : Obligations.RestCompletes := by
  unfold Obligations.RestCompletes
  intro s n hc hn
  obtain ⟨-, -, -, hl, hclk⟩ := id hc
  have hcall := resting_call n.toNat hc
  refine ⟨_, exec_rest hc hn, fun is hr he hforce => ?_⟩
  rw [← hclk] at he
  rcases Nat.eq_or_lt_of_le hn with h1 | h2
  · rw [← h1] at he hcall ⊢
    obtain ⟨u, i, hrun, hu, hi, hrise, -, -⟩ := run_to_rise is hcall hr he
    obtain ⟨hproc, hlabel⟩ := label_restEnd i .rest { cur := u.data.settled, pend := some false }
      { cur := u.sen.settled, pend := some true } none .idle true u hu.quiet
    refine ⟨_, hrun.trans (step_restFirst_one (plainInstant_of_clkRise hrise hi) hu.busy hu.main hrise),
      ⟨restEnd_engine .., restEnd_done .., restEnd_main .., hproc.trans (hu.labelProc.trans hl)⟩, ?_, ?_, restEnd_ts ..,
      hlabel.trans hu.label, (restEnd_result ..).trans hu.result, undisturbed_trans hu.kept (undisturbed_restEnd ..)⟩
    · rw [restEnd_data]
      rfl
    · rw [restEnd_sen, hu.sen]
  · obtain ⟨r, hr2⟩ : ∃ r, n.toNat = r + 2 := ⟨n.toNat - 2, by omega⟩
    rw [hr2] at he
    obtain ⟨first, later, rfl, hfirst, hlater⟩ := endsAtRise_split is he
    obtain ⟨hrf, hrl⟩ := noReset_append hr
    obtain ⟨-, hno⟩ := noForce_append (hforce.resolve_left (by omega))
    obtain ⟨v, hrun, hv, hvts, hvclk, -⟩ := run_restFirst hcall h2 hrf hfirst
    have hpass : v.passes later.dropLast = true := by
      rw [State.passes, hvts]
      refine restHolds_of_noForce _ _ _ _ (List.all_eq_true.mpr fun i hi => ?_)
      exact List.all_eq_true.mp hno i (List.mem_of_mem_dropLast hi)
    have hts : v.tsAfter later = .rest := (tsThrough_of_noForce _ _ _ _ _ hno).trans hvts
    obtain ⟨u, hrun', hu⟩ := run_resting_ends hv (.inl ⟨rfl, hl⟩) (m := r + 1) (by omega) hrl (hvclk ▸ hlater) hpass
      (.inl (by omega))
    refine ⟨u, (runOn_append_next hrun later).trans hrun', hu.completed, ?_, hu.sen, hu.ts.trans hts, hu.label, hu.result,
      hu.kept⟩
    rw [hu.data]
    rfl

end Sys2Proof.Machine
end

section
/-! The early exit of a rest (R126 to R128, R226): of REST under every interleaving, and of the timed rest of a verb or of a
command code under LOCKED. -/

namespace Sys2Proof.Machine

/-- The callers of a transfer's timed rest, once its label is published: none, or the join of a verb (R161). -/
theorem endsRequest_joins (tr : Transfer) : EndsRequest tr.joins tr.process.ended := by
  unfold Transfer.joins Transfer.process
  cases tr.label with
  | none => exact .inl ⟨rfl, rfl⟩
  | some v => exact .inr ⟨rfl, rfl⟩

/-- The first input of a run with the levels of the LOCKED schedule (R62). -/
theorem lockedLevels_cons {c : Bool} {i : Input} {is : List Input} (h : lockedLevels c (i :: is) = true) :
    i.clk = !c ∧ i.rawStb = !c ∧ i.rst = false ∧ lockedLevels (!c) is = true := by
  have hall : (i.clk == !c && i.rawStb == !c && !i.rst && lockedLevels (!c) is) = true := h
  simpa only [Bool.and_eq_true, beq_iff_eq, Bool.not_eq_true', and_assoc] using hall

theorem noReset_of_lockedLevels (is : List Input) : ∀ {c : Bool}, lockedLevels c is = true → noReset is = true := by
  induction is with
  | nil => intro _ _; rfl
  | cons i is ih =>
    intro c h
    obtain ⟨-, -, hi, his⟩ := lockedLevels_cons h
    exact Bool.and_eq_true_iff.mpr ⟨by simp [hi], ih his⟩

/-- Two ticks after a high one bring the next clock rise, and no check comes before it. -/
theorem lockedLevels_two {js : List Input} (p : Params) (h : lockedLevels true js = true) (hlen : js.length = 2) :
    endsAtRise true 1 js ∧ restHolds p true true .rest js.dropLast = true := by
  match js, hlen with
  | [a, b], _ =>
    obtain ⟨ha, -, -, h⟩ := lockedLevels_cons h
    obtain ⟨hb, -⟩ := lockedLevels_cons h
    exact ⟨by simp [endsAtRise, clockRises, ha, hb], by simp [restHolds]⟩

/-- Four ticks after a high one bring the second clock rise, and the one check before it is that at the first. -/
theorem lockedLevels_four {js : List Input} {p : Params} (h : lockedLevels true js = true) (hlen : js.length = 4)
    (hts : tsThrough p true true .rest (js.take 2) = .rest) :
    endsAtRise true 2 js ∧ restHolds p true true .rest js.dropLast = true := by
  match js, hlen with
  | [a, b, c, d], _ =>
    obtain ⟨ha, -, -, h⟩ := lockedLevels_cons h
    obtain ⟨hb, -, -, h⟩ := lockedLevels_cons h
    obtain ⟨hc, -, -, h⟩ := lockedLevels_cons h
    obtain ⟨hd, -⟩ := lockedLevels_cons h
    have hchecks : restHolds p true true .rest [a, b, c] = ((true || !a.clk || tsThrough p true true .rest [a] == .rest) &&
        ((a.clk || !b.clk || tsThrough p true true .rest [a, b] == .rest) &&
          ((b.clk || !c.clk || tsThrough p true true .rest [a, b, c] == .rest) && true))) := rfl
    have hcheck : tsThrough p true true .rest [a, b] = .rest := hts
    exact ⟨by simp [endsAtRise, clockRises, ha, hb, hc, hd], hchecks.trans (by simp [hcheck, hb])⟩

/-- A code with its timed rest under LOCKED, from a high tick: the first clock rise of the rest comes 14 ticks later, and a
force that comes with it is written over (R121, R126). -/
theorem run_timed_firstRise (v : WireFrame) (c : List Frame) {s : State} {is : List Input} {first : Input}
    (hs : s.levels true) (hsen : s.sen.settled = true) (hb : s.engine = .busy) (hL : lockedFrom true is = true)
    (hlen : is.length = 13) (hclk : first.clk = true) (hraw : first.rawStb = true) (hrst : first.rst = false) :
    ∃ t, runOn (is ++ [first]) (callSendBits v 6 (.timedRest 3 :: c) s).notify = .next t ∧
      Resting (.restLoop 3 1) c s.published t ∧ t.ts = .rest ∧ t.clk = true ∧ t.rawStb = true := by
  obtain ⟨as, bs, rfl, hlenA, hlenB, hLa, hLb⟩ := lockedFrom_split (n := 12) (m := 1) hL hlen
  obtain ⟨low, rfl⟩ : ∃ low, bs = [low] := List.length_eq_one_iff.mp hlenB
  obtain ⟨hlow, -⟩ := lockedFrom_cons hLb
  obtain ⟨b, d, w, hb1, -, rfl, hcode, -⟩ := run_code (h := true) v (.timedRest 3 :: c) hs nofun hsen hb hLa hlenA
  have hrest : Resting (.restFirst 3) c s.published (returnTo (.timedRest 3 :: c) 0#16
      (((s.published.later b).withData { cur := d, pend := some (v.getLsbD 5) }).setTs .tx)).notify :=
    ⟨hb, rfl, rfl, published_not_suspended s, rfl, rfl, rfl, rfl, nofun, Line.commit_commit _, Line.commit_commit _, rfl, rfl,
      rfl, rfl, rfl, rfl⟩
  have hend : endsAtRise b.hi 1 [low, first] := by simp [endsAtRise, clockRises, hb1, hlow.clk, hclk, levelAfter]
  obtain ⟨t, hrun, ht, hts, htclk, i, hlast, htraw⟩ := run_restFirst hrest (by omega)
    (by simp [noReset, hlow.rst, hrst]) hend
  obtain rfl : first = i := by simpa using hlast
  refine ⟨t, ?_, ht, hts, htclk, ?_⟩
  · rw [List.append_assoc]
    exact (runOn_append_next hcode _).trans hrun
  · rw [htraw, rawLevel, hclk, hraw]
    cases t.params.schedule <;> rfl

/-- Settles O29: REST runs to its first clock rise (`run_restFirst`), a code with its timed rest does so under LOCKED
(`run_timed_firstRise`), and from there on either rest ends in the same way (`run_resting_ends`). -/
theorem restCutShort : Obligations.RestCutShort := by
  unfold Obligations.RestCutShort
  refine ⟨fun s n hc hn => ?_, fun i s tr ht htail hc hs => ?_⟩
  · obtain ⟨-, -, -, hl, hclk⟩ := id hc
    refine ⟨_, exec_rest hc (by omega), fun first hr he => ?_⟩
    rw [← hclk] at he
    obtain ⟨v, hrun, hv, hvts, hvclk, -⟩ := run_restFirst (resting_call n.toNat hc) hn hr he
    refine ⟨v, hrun, hv.busy, hvts, hvclk, fun m is hm hr' he' hpass hend => ?_⟩
    have hafter : v.tsAfter is = tsThrough v.params true v.rawStb .rest is := by rw [State.tsAfter, hvclk, hvts]
    obtain ⟨u, hrun', hu⟩ := run_resting_ends hv (.inl ⟨rfl, hl⟩) hm hr' (hvclk ▸ he')
      (by rwa [State.passes, hvclk, hvts]) (by rwa [hafter])
    exact ⟨u, hrun', hu.completed, hu.data, hu.sen, hu.ts.trans hafter, hu.label, hu.result, hu.kept⟩
  · obtain ⟨hb, -, hk, hl, hclk⟩ := hc
    obtain ⟨hsen, hraw⟩ := hs
    refine ⟨_, exec_of_transfer ht (by simp [htail]) hk hl, fun is js first hL hlen hlevels hend => ?_⟩
    rw [htail]
    obtain ⟨hfclk, hfraw, hfrst, hjs⟩ := lockedLevels_cons hlevels
    obtain ⟨v, hrun, hv, hvts, hvclk, hvraw⟩ := run_timed_firstRise (s := s.setLabelProc tr.process)
      (tr.code.setWidth 16) tr.joins ⟨hclk, hraw⟩ (by rw [State.setLabelProc_sen, hsen]; rfl) hb hL hlen hfclk hfraw hfrst
    obtain ⟨-, -, -, -, -, -, -, hparams⟩ := hv.kept
    have hafter : v.tsAfter js = tsThrough s.params true true .rest js := by
      rw [State.tsAfter, hvclk, hvraw, hvts]
      exact congrArg (fun p => tsThrough p true true .rest js) hparams
    have hpasses : ∀ ks, v.passes ks = restHolds s.params true true .rest ks := fun ks => by
      rw [State.passes, hvclk, hvraw, hvts]
      exact congrArg (fun p => restHolds p true true .rest ks) hparams
    obtain ⟨u, hrun', hu⟩ : ∃ u, runOn js v = .next u ∧
        RestOver (v.tsAfter js) (s.setLabelProc tr.process).published u := by
      rcases hend with ⟨hlen2, hcut⟩ | ⟨hlen4, hgoes⟩
      · obtain ⟨he, hpass⟩ := lockedLevels_two s.params hjs hlen2
        exact run_resting_ends hv (endsRequest_joins tr) (m := 1) (by omega) (noReset_of_lockedLevels js hjs) (hvclk ▸ he)
          ((hpasses _).trans hpass) (.inr ⟨by omega, hafter ▸ hcut⟩)
      · obtain ⟨he, hpass⟩ := lockedLevels_four hjs hlen4 hgoes
        exact run_resting_ends hv (endsRequest_joins tr) (m := 2) (by omega) (noReset_of_lockedLevels js hjs) (hvclk ▸ he)
          ((hpasses _).trans hpass) (.inl rfl)
    refine ⟨u, ?_, hu.completed, hu.data, hu.sen, hu.ts.trans hafter, hu.label.trans (process_publishes tr s.label),
      hu.result, hu.kept⟩
    rw [List.append_cons]
    exact (runOn_append_next hrun js).trans hrun'

end Sys2Proof.Machine
end

section
/-! The width checks (R139): the framing operations and the verbs with an operand out of range, for any callers. -/

namespace Sys2Proof.Machine

/-! ### The code (R139) -/

section codeTooWide

variable {c : Cmd} (k : List Frame) (s : State)

theorem callSendCommand_of_wide_code (h : 64 ≤ c.toNat) : callSendCommand c k s = s.raise .cmdWidth (c.setWidth 32) := by
  rcases callSendCommand_cases c k s with ⟨-, e⟩ | ⟨hc, -⟩
  · exact e
  · omega

theorem callSendCommandAndData_of_wide_code (d : Arg) (h : 64 ≤ c.toNat) :
    callSendCommandAndData c d k s = s.raise .cmdWidth (c.setWidth 32) := by
  rcases callSendCommandAndData_cases c d k s with ⟨-, e⟩ | ⟨hc, -⟩ | ⟨hc, -⟩
  · exact e
  · omega
  · omega

theorem callSendCommandAndByteData_of_wide_code (d : Arg) (h : 64 ≤ c.toNat) :
    callSendCommandAndByteData c d k s = s.raise .cmdWidth (c.setWidth 32) := by
  rcases callSendCommandAndByteData_cases c d k s with ⟨-, e⟩ | ⟨hc, -⟩ | ⟨hc, -⟩
  · exact e
  · omega
  · omega

theorem callSendCommandAndReadData_of_wide_code (h : 64 ≤ c.toNat) :
    callSendCommandAndReadData c k s = s.raise .cmdWidth (c.setWidth 32) := by
  rcases callSendCommandAndReadData_cases c k s with ⟨-, e⟩ | ⟨hc, -⟩
  · exact e
  · omega

theorem callSendCommandAndReadByteData_of_wide_code (h : 64 ≤ c.toNat) :
    callSendCommandAndReadByteData c k s = s.raise .cmdWidth (c.setWidth 32) := by
  rcases callSendCommandAndReadByteData_cases c k s with ⟨-, e⟩ | ⟨hc, -⟩
  · exact e
  · omega

end codeTooWide

/-! ### The data, after a code in range (R139) -/

theorem callSendCommandAndData_of_wide_word {c : Cmd} {d : Arg} (k : List Frame) (s : State) (hc : c.toNat < 64)
    (hd : 16384 ≤ d.toNat) : callSendCommandAndData c d k s = s.raise .dataWidth (d.setWidth 32) := by
  rcases callSendCommandAndData_cases c d k s with ⟨h, -⟩ | ⟨-, -, e⟩ | ⟨-, h, -⟩
  · omega
  · exact e
  · omega

theorem callSendCommandAndByteData_of_wide_byte {c : Cmd} {d : Arg} (k : List Frame) (s : State) (hc : c.toNat < 64)
    (hd : 256 ≤ d.toNat) : callSendCommandAndByteData c d k s = s.raise .byteWidth (d.setWidth 32) := by
  rcases callSendCommandAndByteData_cases c d k s with ⟨h, -⟩ | ⟨-, -, e⟩ | ⟨-, h, -⟩
  · omega
  · exact e
  · omega

/-! ### The verbs: the fault ends the label process that the call has forked (R161, R174) -/

@[simp] theorem State.setLabelProc_raise (p : LabelProcess) (code : ErrorCode) (info : BitVec 32) (s : State) :
    (s.setLabelProc p).raise code info = s.raise code info := rfl

section verbs

variable {d : Arg} (k : List Frame) (s : State)

theorem callLoadConfig_of_wide_word (h : 16384 ≤ d.toNat) :
    callLoadConfig d k s = s.raise .dataWidth (d.setWidth 32) := by
  rcases callLoadConfig_cases d k s with ⟨-, e⟩ | ⟨hd, -⟩
  · rw [e, State.setLabelProc_raise]
  · omega

theorem callLoadProgram_of_wide_word (h : 16384 ≤ d.toNat) :
    callLoadProgram d k s = s.raise .dataWidth (d.setWidth 32) := by
  rcases callLoadProgram_cases d k s with ⟨-, e⟩ | ⟨hd, -⟩
  · rw [e, State.setLabelProc_raise]
  · omega

theorem callProgramCycle_of_wide_word (h : 16384 ≤ d.toNat) :
    callProgramCycle d k s = s.raise .dataWidth (d.setWidth 32) :=
  callLoadProgram_of_wide_word (.programAfterLoad d :: k) s h

theorem callLoadData_of_wide_byte (h : 256 ≤ d.toNat) :
    callLoadData d k s = s.raise .byteWidth (d.setWidth 32) := by
  rcases callLoadData_cases d k s with ⟨-, e⟩ | ⟨hd, -⟩
  · rw [e, State.setLabelProc_raise]
  · omega

end verbs

/-- Settles O36: each instruction answers with the state its call makes, and that call raises the fault of its first operand
out of range, whatever follows it. -/
theorem widthFaults : Obligations.WidthFaults := by
  unfold Obligations.WidthFaults
  intro s c d _
  refine ⟨fun hc => ?code, fun hc hd => ?wordAfterCode, fun hc hd => ?byteAfterCode, fun hd => ?word, fun hd => ?byte⟩
  case code =>
    exact ⟨congrArg Host.Outcome.next (callSendCommand_of_wide_code _ s hc),
      congrArg Host.Outcome.next (callSendCommandAndData_of_wide_code _ s d hc),
      congrArg Host.Outcome.next (callSendCommandAndByteData_of_wide_code _ s d hc),
      congrArg Host.Outcome.next (callSendCommandAndReadData_of_wide_code _ s hc),
      congrArg Host.Outcome.next (callSendCommandAndReadByteData_of_wide_code _ s hc)⟩
  case wordAfterCode => exact congrArg Host.Outcome.next (callSendCommandAndData_of_wide_word _ s hc hd)
  case byteAfterCode => exact congrArg Host.Outcome.next (callSendCommandAndByteData_of_wide_byte _ s hc hd)
  case word =>
    exact ⟨congrArg Host.Outcome.next (callLoadConfig_of_wide_word _ s hd),
      congrArg Host.Outcome.next (callLoadProgram_of_wide_word _ s hd),
      congrArg Host.Outcome.next (callProgramCycle_of_wide_word _ s hd)⟩
  case byte => exact congrArg Host.Outcome.next (callLoadData_of_wide_byte _ s hd)

end Sys2Proof.Machine
end

section
/-! The label of a verb at its clock rise (R161, R174, R175). -/

namespace Sys2Proof.Machine

/-- What the label process of an instant leaves of `label` (R161). -/
theorem runLabel_arrived_label (i : Input) (s : State) : ((arrived i s).runLabel (instantEvents i s)).label =
    if (levelEvents s i).clkRise then s.labelProc.publishes s.label else s.label := by
  rw [runLabel_eq, arrived_labelProc, (regsKept_arrived i s).label]
  rfl

/-- While a label process is there, the main process is in a verb or below one (R1, R69, R161). -/
theorem layer_le_of_labelProc {s : State} {p : Process} (h : s.Sound) (hm : s.main = some p)
    (hl : s.labelProc ≠ .idle) : p.point.callee.layer ≤ 3 := by
  by_cases hv : p.point.callee = .verb
  · rw [hv]
    exact Nat.le_refl 3
  · obtain ⟨hlive, -, hn⟩ := live_of_suspended h hm hv
    exact Nat.le_of_not_lt fun hlay => join_notMem_of_nested hn (Nat.le_of_lt hlay) (hlive.label.mpr hl)

/-- Settles O37: a waiting label process belongs to a live verb, whose main process is not at an edge of `start` or
`shutdown` (`layer_le_of_labelProc`) and so writes no label (`label_resume`): the label is what the label process leaves. -/
theorem labelPublishedAtClockRise : Obligations.LabelPublishedAtClockRise := by
  unfold Obligations.LabelPublishedAtClockRise
  intro s t i v hI hw hp h
  obtain ⟨hS, -, -⟩ := (invariant_iff s).mp hI
  have hne : s.labelProc ≠ .idle := by simp [hw]
  obtain ⟨u, rfl, hu⟩ := plainInstant_invariant_cases hI hp h
  rcases hu with ⟨-, hm, -, -⟩ | ⟨-, hidle, -⟩ | ⟨-, hidle, -⟩ | ⟨-, -, hSa, p, hm, rfl⟩
  · exact absurd ((mainOk_none hm).mp hS.1).2 hne
  · exact absurd (labelProc_of_idle hS hidle) hne
  · exact absurd (labelProc_of_idle hS hidle) hne
  · have hlay := layer_le_of_labelProc hS hm hne
    have hlabel : (resume (instantEvents i s) p ((arrived i s).runLabel (instantEvents i s))).label =
        ((arrived i s).runLabel (instantEvents i s)).label := by
      rcases label_resume (instantEvents i s) hSa ((arrived_main i s).trans hm) with g | ⟨hpt | hpt, -, -⟩
      · exact g
      · exact absurd hlay (by rw [hpt]; decide)
      · exact absurd hlay (by rw [hpt]; decide)
    rw [State.notify_label, hlabel, runLabel_arrived_label, hw]
    exact ⟨fun he => if_pos he, fun he => if_neg (by simp [he])⟩

end Sys2Proof.Machine
end

section
/-! PROGRAM_CYCLE up to the last sample of its read-back, and the faults that the read-back can raise there (R193,
R250). -/

namespace Sys2Proof.Machine

/-! ### The faults of a read-back (R104, R193, R250) -/

/-- The information of FAULTY_WRITE in numbers: the two words side by side (R250). -/
theorem infoOfMismatch_eq (d : Arg) (w : Word14) :
    infoOfMismatch d w = BitVec.ofNat 32 (d.toNat * 2 ^ 16 + w.toNat) := by
  apply BitVec.eq_of_toNat_eq
  have hw : w.toNat < 2 ^ 16 := by omega
  rw [← Nat.shiftLeft_eq, Nat.shiftLeft_add_eq_or_of_lt hw]
  have hd : d.toNat < 4294967296 := by omega
  simp [infoOfMismatch, Nat.mod_eq_of_lt hd]

/-- The fault with which `programCycle d` refuses the answer `f`, whatever the state: FRAME before FAULTY_WRITE. -/
structure ReadBackFault (d : Arg) (f : WireFrame) (code : ErrorCode) (info : BitVec 32) : Prop where
  frame : ¬ wellFramed f → code = .frame ∧ info = f.setWidth 32
  differs : wellFramed f → code = .faultyWrite ∧ info = BitVec.ofNat 32 (d.toNat * 2 ^ 16 + (wordOf f).toNat)

/-- A badly framed answer is refused at the framing check, another word where the protocol branch ends, before the join
(R104, R193). -/
theorem returnTo_readBack_raises {d : Arg} {f : WireFrame} (c : List Frame)
    (h : ¬ wellFramed f ∨ (wordOf f).toNat ≠ d.toNat) :
    ∃ code info, ReadBackFault d f code info ∧
      ∀ s : State, returnTo (.checkFrame .word :: .join :: .programAfterRead d :: c) f s = s.raise code info := by
  by_cases hf : wellFramed f
  · refine ⟨_, _, ⟨absurd hf, fun _ => ⟨rfl, rfl⟩⟩, fun s => ?_⟩
    have hd := h.resolve_left (not_not_intro hf)
    rw [returnTo_checkFrame s hf, returnTo]
    rcases branchEnds_cases (payloadOf .word f) (.programAfterRead d :: c) s with ⟨d', c', hc, -, e⟩ | ⟨hsame, -⟩
    · cases hc
      rw [e, setWidth_payloadOf_word, infoOfMismatch_eq]
      rfl
    · exact absurd (setWidth_payloadOf_word f ▸ hsame d c rfl) hd
  · exact ⟨_, _, ⟨fun _ => ⟨rfl, rfl⟩, (absurd · hf)⟩, fun s => returnTo_checkFrame_bad s hf⟩

/-- The fault as the statement says it, case by case. -/
theorem ReadBackFault.faultedWith {d : Arg} {f : WireFrame} {code : ErrorCode} {info : BitVec 32} {u : State}
    (h : ReadBackFault d f code info) (hu : faultedWith code info u) :
    (¬ wellFramed f → Machine.faultedWith .frame (f.setWidth 32) u) ∧
    (wellFramed f → Machine.faultedWith .faultyWrite (BitVec.ofNat 32 (d.toNat * 2 ^ 16 + (wordOf f).toNat)) u) := by
  refine ⟨fun hf => ?_, fun hf => ?_⟩
  · obtain ⟨rfl, rfl⟩ := h.frame hf
    exact hu
  · obtain ⟨rfl, rfl⟩ := h.differs hf
    exact hu

/-! ### The run under LOCKED (R193, R295) -/

/-- A verb that writes a frame, from a tick of level `h`: it returns `43` ticks later from a low tick, `44` from a high
one. -/
theorem run_writeVerb {h : Bool} (v f : WireFrame) (l : CommandLabel) {k : List Frame} {s : State} {is : List Input}
    (hs : s.Ready h) (hk : ∀ d c, k ≠ .programAfterRead d :: c) (hL : lockedFrom h is = true)
    (hlen : is.length = 43 + h.toNat) :
    ∃ w : State, w.Ready true ∧ Transferred .tx l s w ∧
      runOn is (callSendBits v 6 (.sendFrame f :: .join :: k) (s.setLabelProc (.waiting l))).notify =
        .next (returnTo k 0#16 w).notify ∧
      sendsBits is (callSendBits v 6 (.sendFrame f :: .join :: k) (s.setLabelProc (.waiting l))).notify v 6
        (1 + h.toNat) ∧
      ((returnTo k 0#16 w).data = w.data →
        sendsBits is (callSendBits v 6 (.sendFrame f :: .join :: k) (s.setLabelProc (.waiting l))).notify f 16
          (13 + h.toNat)) := by
  obtain ⟨w, hw, hwl, hready, -, hrun, hcode, hframe⟩ := run_write (s := s.setLabelProc (.waiting l)) v f (.join :: k)
    hs.levels hs.gate hs.sen hs.busy hL hlen
  rw [returnTo_join hwl fun d c e => absurd e (hk d c)] at hrun hframe
  exact ⟨w.setLabelProc .idle, hready, ⟨hw.pm, hw.pwr, hw.sen, hw.ts, hw.label, hw.seq, hw.done, hw.registers⟩, hrun,
    hcode, hframe⟩

/-- A timed rest and a transfer after it: the strobe is enabled again by then, so `sen` is as after one transfer (R128). -/
theorem Rested.transferred {ts : TransportState} {l l' : CommandLabel} {s t u : State} (h : Rested l s t)
    (hs : s.sen.settled = true) (g : Transferred ts l' t u) : Transferred ts l' s u where
  pm := by rw [g.pm, h.pm, Line.commit_commit]
  pwr := by rw [g.pwr, h.pwr, Line.commit_commit]
  sen := by rw [g.sen, h.sen, Line.commit_of_pend, Line.commit_settled, hs]
  ts := g.ts
  label := g.label
  seq := g.seq.trans h.seq
  done := g.done.trans h.done
  registers := keepsRegisters_trans h.registers g.registers

/-- `programCycle` from a high tick, up to the framing check of its read-back, whatever the answer: 105 ticks, 44 for the
word, 18 for the timed rest and 43 for the read. -/
theorem run_programReadBack {d : Arg} {k : List Frame} {s : State} {is : List Input} {f : WireFrame}
    (hd : d.toNat < 16384) (hs : s.Ready true) (hL : lockedFrom true is = true) (hlen : is.length = 105)
    (ha : answers is 74 f) :
    ∃ w : State, w.labelProc = .finished ∧ (w.setLabelProc .idle).Ready false ∧ Transferred .rx .readProgram s w ∧
      runOn is (callProgramCycle d k s).notify =
        .next (returnTo (.checkFrame .word :: .join :: .programAfterRead d :: k) f w).notify ∧
      sendsCodes is (callProgramCycle d k s).notify [(0x02, 2), (0x08, 46), (0x04, 64)] ∧
      sendsBits is (callProgramCycle d k s).notify (writeFrame d) 16 14 := by
  have hcall : callProgramCycle d k s = callSendBits 0x02#16 6
      (.sendFrame (writeFrame d) :: .join :: .programAfterLoad d :: k) (s.setLabelProc (.waiting .loadProgram)) := by
    rcases callLoadProgram_cases d (.programAfterLoad d :: k) s with ⟨hd', -⟩ | ⟨-, e⟩
    · omega
    · exact e
  obtain ⟨as, is', rfl, hlenA, hlen', hLa, hL'⟩ := lockedFrom_split (n := 44) (m := 61) hL hlen
  obtain ⟨bs, cs, rfl, hlenB, hlenC, hLb, hLc⟩ := lockedFrom_split (n := 18) (m := 43) hL' hlen'
  have hans : answers cs 12 f := by
    refine answers_append_right (is := as ++ bs) ?_
    rw [List.append_assoc, List.length_append, hlenA, hlenB]
    exact ha
  obtain ⟨u, hu, hsu, runU, codeU, frameU⟩ := run_writeVerb 0x02#16 (writeFrame d) .loadProgram
    (k := .programAfterLoad d :: k) hs (by simp) hLa hlenA
  obtain ⟨v, hv, huv, runV, sendV⟩ := run_timedVerb 0x08#16 .beginProgram (k := .programAfterBegin d :: k) hu (by simp)
    hLb hlenB
  obtain ⟨w, hwl, hw, hvw, runW, sendW⟩ := run_readVerb 0x04#16 .word .readProgram (.programAfterRead d :: k) hv hans
    hLc hlenC
  have runUV := (runOn_append_next runU bs).trans runV
  rw [hcall]
  refine ⟨w, hwl, hw, hsu.trans (huv.transferred hu.sen hvw), ?_, ?_, ?_⟩
  · rw [← List.append_assoc]
    exact (runOn_append_next runUV cs).trans runW
  · have hload := sendsBits_append_left codeU (by simp [hlenA]) (bs ++ cs)
    have hbegin := sendsBits_append_right runU (sendsBits_append_left sendV (by simp [hlenB]) cs)
    have hread := sendsBits_append_right runUV sendW
    rw [hlenA] at hbegin
    rw [List.append_assoc, List.length_append, hlenA, hlenB] at hread
    intro p hp
    simp only [List.mem_cons, List.not_mem_nil, or_false] at hp
    obtain rfl | rfl | rfl := hp
    · exact hload
    · exact hbegin
    · exact hread
  · exact sendsBits_append_left (frameU rfl) (by simp [hlenA]) (bs ++ cs)

/-! ### The instant of the fault (R68, R174, R253) -/

/-- A main process that takes the sample `b` and faults, whatever its label process does: the order of the two makes no
difference, and a label whose edge has come is published (R68, R174). -/
theorem processed_of_raises {e : Events} {i : Input} {p : Process} {s : State} {b : Bool} {code : ErrorCode}
    {info : BitVec 32} (hb : s.lineIn = b)
    (hres : ∀ t : State, t.lineIn = b → resume e p t = (t.writeData b).raise code info) :
    processed e i p s = ((s.runLabel e).writeData b).raise code info := by
  have hafter : labelAfterMain e s ((s.writeData b).raise code info) = ((s.runLabel e).writeData b).raise code info := by
    rw [← runLabel_writeData]
    cases hl : s.labelProc.suspended with
    | false => rw [labelAfterMain_of_not_waiting hl, runLabel_of_not_waiting (s := s.writeData b) hl]
    | true =>
      obtain ⟨v, hv⟩ := exists_waiting_of_suspended hl
      exact labelAfterMain_raise (s := s.writeData b) code info hv hv
  unfold processed
  rw [hres s hb, hres _ ((runLabel_lineIn e s).trans hb), hafter, ite_self]

/-- The last sample completes the frame (R123). -/
theorem setSample_last {r f : WireFrame} {b : Bool}
    (h : ∀ j, j < 16 → f.getLsbD j = if j = 15 then b else r.getLsbD j) : setSample r 15 b = f :=
  BitVec.eq_of_getLsbD_eq fun j hj => (setSample_getLsbD r 15 j b hj).trans (h j hj).symm

/-- The last sample of a read-back that is refused, under every interleaving: the instant takes the sample and the fault,
and publishes a label only if its edge comes in it (R174, R193, R253). -/
theorem step_readBack_raises {s : State} {i : Input} {d : Arg} {r f : WireFrame} {c : List Frame} {code : ErrorCode}
    {info : BitVec 32} (hp : plainInstant i s = true) (hb : s.engine = .busy)
    (hm : s.main = some { point := .readBit 16 15 r, callers := .checkFrame .word :: .join :: .programAfterRead d :: c })
    (he : (instantEvents i s).stbFall = true)
    (hf : ∀ j, j < 16 → f.getLsbD j = if j = 15 then i.lineIn else r.getLsbD j)
    (hret : ∀ t : State, returnTo (.checkFrame .word :: .join :: .programAfterRead d :: c) f t = t.raise code info) :
    step (s.feed i) =
      .next ((((arrived i s).runLabel (instantEvents i s)).writeData i.lineIn).raise code info).notify := by
  rw [step_suspended hp hb hm (by simp [Point.callee]), processed_of_raises (arrived_lineIn i s) fun t ht => ?_]
  rw [resume_readBit _ _ _ _ t he, readBitEdge_last r _ t (Nat.le_refl 16), ht, setSample_last hf]
  exact hret _

/-- Settles O46: under LOCKED the run ends at the framing check of the read-back (`run_programReadBack`), and under every
interleaving the instant of the last sample is that of the check (`step_readBack_raises`); the check or the comparison then
faults (`returnTo_readBack_raises`), before any join. -/
theorem programCycleFaults : Obligations.ProgramCycleFaults := by
  unfold Obligations.ProgramCycleFaults
  refine ⟨?locked, ?free⟩
  case locked =>
    intro s d hd ⟨hb, hdone, hk, hl, hclk⟩ ⟨hsen, hraw⟩
    refine ⟨callProgramCycle d [] s, by rw [← hk]; rfl, fun is f hL hlen ha hbad => ?_⟩
    obtain ⟨w, -, -, hw, hrun, -, -⟩ := run_programReadBack (k := []) hd
      ⟨⟨hclk, hraw⟩, nofun, by rw [hsen]; rfl, hb, hl⟩ hL hlen ha
    obtain ⟨code, info, hfault, hret⟩ := returnTo_readBack_raises [] hbad
    rw [hret] at hrun
    obtain ⟨hframe, hdiffers⟩ := hfault.faultedWith (u := (w.raise code info).notify) ⟨rfl, rfl, rfl, rfl, rfl⟩
    obtain ⟨hcache, hresult, -, -, hreq, -⟩ := hw.registers
    exact ⟨_, hrun, hframe, hdiffers, hw.ts, hw.label, hresult, hw.done.trans hdone, hw.seq, hcache, hreq⟩
  case free =>
    intro s i d r f c hp hb hm he hf hbad
    obtain ⟨code, info, hfault, hret⟩ := returnTo_readBack_raises c hbad
    obtain ⟨hframe, hdiffers⟩ := hfault.faultedWith
      (u := ((((arrived i s).runLabel (instantEvents i s)).writeData i.lineIn).raise code info).notify)
      ⟨rfl, rfl, rfl, rfl, rfl⟩
    have hregs := regsKept_arrived i s
    refine ⟨_, step_readBack_raises hp hb hm he hf hret, hframe, hdiffers, fun v hv => ?_, fun hl => ?_, ?_⟩
    · rw [State.notify_label, State.raise_label, State.writeData_label, runLabel_arrived_label, hv]
      rfl
    · rw [runLabel_of_not_waiting (s := arrived i s) ((arrived_labelProc i s).symm ▸ hl)]
      exact hregs.label
    · simp [runLabel_eq, hregs.result, hregs.done, hregs.cache, Line.write_commit]

end Sys2Proof.Machine
end

section
/-! READ_ID_BANDGAP under the LOCKED schedule, from its reset to any of its five reads (R195, R197). -/

namespace Sys2Proof.Machine

/-! ### Codes and answers over joined inputs -/

/-- The same codes, sent `n` inputs later. -/
def after (n : Nat) (l : List (Code × Nat)) : List (Code × Nat) := l.map fun p => (p.1, n + p.2)

theorem sendsCodes_append {is : List Input} {s : State} {l m : List (Code × Nat)} :
    sendsCodes is s (l ++ m) ↔ sendsCodes is s l ∧ sendsCodes is s m := List.forall_mem_append

theorem sendsCodes_append_left {is : List Input} {s : State} {l : List (Code × Nat)} (h : sendsCodes is s l)
    (hlen : ∀ p ∈ l, p.2 + 10 ≤ is.length) (js : List Input) : sendsCodes (is ++ js) s l := fun p hp =>
  sendsBits_append_left (h p hp) (by have := hlen p hp; omega) js

theorem sendsCodes_append_right {is js : List Input} {s t : State} {l : List (Code × Nat)} (hr : runOn is s = .next t)
    (h : sendsCodes js t l) : sendsCodes (is ++ js) s (after is.length l) := by
  intro q hq
  obtain ⟨p, hp, rfl⟩ := List.mem_map.mp hq
  exact sendsBits_append_right hr (h p hp)

theorem answers_append_left {is js : List Input} {first : Nat} {f : WireFrame} (h : answers (is ++ js) first f)
    (hlen : first + 30 < is.length) : answers is first f := fun k hk => by
  have := h k hk
  rwa [List.getElem?_append_left (by omega)] at this

/-- The answer to a read, in the part of the inputs that belongs to it. -/
theorem answers_slice {is : List Input} {n len first : Nat} {f : WireFrame} (h : answers is (n + first) f)
    (hlen : first + 30 < len) (his : n + len ≤ is.length) : answers ((is.drop n).take len) first f := by
  rw [← List.take_append_drop n is] at h
  have hdrop : answers (is.drop n) first f := by
    refine answers_append_right (is := is.take n) ?_
    rwa [List.length_take, Nat.min_eq_left (by omega)]
  rw [← List.take_append_drop len (is.drop n)] at hdrop
  exact answers_append_left hdrop (by rw [List.length_take, List.length_drop]; omega)

/-- An even number of ticks leads back to the level they began at. -/
theorem levelAfter_even (c : Bool) (n : Nat) : levelAfter c (2 * n) = c := by simp [levelAfter]

/-! ### Loops of verbs -/

/-- Verbs that send bits last have run since `r` (R120). -/
def SentSince (r s : State) : Prop := ∃ l, Transferred .tx l r s

/-- A loop whose iteration takes `2 * t` ticks from a high tick and sends the codes `l`: `m` iterations of it, if the target
answers each of them as `good` says. -/
theorem run_iterations {t n : Nat} {r : State} {enter : Nat → State → State} {good : Nat → List Input → Prop}
    {l : List (Code × Nat)} (hl : ∀ p ∈ l, p.2 + 10 ≤ 2 * t)
    (hbody : ∀ j < n, ∀ (s : State) (is : List Input), s.Ready true → SentSince r s → lockedFrom true is = true →
      is.length = 2 * t → good j is → ∃ w : State, w.Ready true ∧ SentSince r w ∧
        runOn is (enter j s).notify = .next (enter (j + 1) w).notify ∧ sendsCodes is (enter j s).notify l)
    {s : State} (hs : s.Ready true) (hr : SentSince r s) :
    ∀ m ≤ n, ∀ is : List Input, lockedFrom true is = true → is.length = 2 * t * m →
      (∀ j < m, good j ((is.drop (2 * t * j)).take (2 * t))) →
      ∃ w : State, w.Ready true ∧ SentSince r w ∧ runOn is (enter 0 s).notify = .next (enter m w).notify ∧
        ∀ j < m, sendsCodes is (enter 0 s).notify (after (2 * t * j) l) := by
  intro m
  induction m with
  | zero =>
    intro _ is _ hlen _
    obtain rfl : is = [] := List.length_eq_zero_iff.mp hlen
    exact ⟨s, hs, hr, rfl, nofun⟩
  | succ m ih =>
    intro hm is hL hlen hgood
    obtain ⟨as, bs, rfl, hlenA, hlenB, hLa, hLb⟩ := lockedFrom_split (n := 2 * t * m) (m := 2 * t) hL
      (hlen.trans (Nat.mul_succ _ _))
    rw [Nat.mul_assoc, levelAfter_even] at hLb
    have hslice : ∀ j < m, ((as ++ bs).drop (2 * t * j)).take (2 * t) = (as.drop (2 * t * j)).take (2 * t) := fun j hj => by
      have hle : 2 * t * j + 2 * t ≤ as.length := by
        rw [hlenA, ← Nat.mul_succ]
        exact Nat.mul_le_mul_left _ hj
      rw [List.drop_append_of_le_length (by omega), List.take_append_of_le_length (by rw [List.length_drop]; omega)]
    obtain ⟨u, hu, hru, hrun, hsends⟩ := ih (by omega) as hLa hlenA fun j hj => hslice j hj ▸ hgood j (by omega)
    have hlast : ((as ++ bs).drop (2 * t * m)).take (2 * t) = bs := by
      rw [← hlenA, List.drop_left, ← hlenB, List.take_length]
    obtain ⟨w, hw, hrw, hrun', hsends'⟩ := hbody m (by omega) u bs hu hru hLb hlenB (hlast ▸ hgood m (by omega))
    refine ⟨w, hw, hrw, (runOn_append_next hrun bs).trans hrun', fun j hj => ?_⟩
    rcases Nat.lt_succ_iff_lt_or_eq.mp hj with hlt | rfl
    · refine sendsCodes_append_left (hsends j hlt) (fun q hq => ?_) bs
      obtain ⟨p, hp, rfl⟩ := List.mem_map.mp hq
      have hle : 2 * t * j + 2 * t ≤ as.length := by
        rw [hlenA, ← Nat.mul_succ]
        exact Nat.mul_le_mul_left _ hlt
      have := hl p hp
      simp only
      omega
    · rw [← hlenA]
      exact sendsCodes_append_right hrun hsends'

/-! ### The reads and the skips (R197) -/

/-- The words of the first `m` of the frames `g`, collected one by one (R197). -/
def collected (g : Nat → WireFrame) : Nat → FiveWords
  | 0 => FiveWords.empty
  | m + 1 => (collected g m).set m (wordOf (g m))

/-- One ID word, from a high tick: 54 ticks, 43 for the read and 11 for the increment after it. -/
theorem run_idRead {n : Nat} (v : FiveWords) (k : List Frame) {f : WireFrame} {s : State} {is : List Input} (hn : n < 4)
    (hs : s.Ready true) (hL : lockedFrom true is = true) (hlen : is.length = 54) (ha : answers is 12 f)
    (hf : wellFramed f) :
    ∃ w : State, w.Ready true ∧ Transferred .tx .incrementAddress s w ∧
      runOn is (idReadLoop n v k s).notify = .next (idReadLoop (n + 1) (v.set n (wordOf f)) k w).notify ∧
      sendsCodes is (idReadLoop n v k s).notify [(0x04, 2), (0x06, 44)] := by
  obtain ⟨as, bs, rfl, hlenA, hlenB, hLa, hLb⟩ := lockedFrom_split (n := 43) (m := 11) hL hlen
  have hans : answers as 12 f := answers_append_left ha (by omega)
  obtain ⟨u, hul, hu, hsu, runU, sendU⟩ := run_readVerb 0x04#16 .word .readProgram (.idAfterRead n v :: k) hs hans hLa hlenA
  have hret : returnTo (.checkFrame .word :: .join :: .idAfterRead n v :: k) f u =
      callIncrementAddress (.idAfterIncrement n (v.set n (wordOf f)) :: k) (u.setLabelProc .idle) := by
    rw [returnTo_checkFrame u hf, returnTo_join hul (by simp), returnTo, setWidth_payloadOf_word]
  rw [hret] at runU
  obtain ⟨w, hw, huw, runW, sendW⟩ := run_codeVerb 0x06#16 .incrementAddress
    (k := .idAfterIncrement n (v.set n (wordOf f)) :: k) hu (by simp) hLb hlenB
  have hdata : (idReadLoop (n + 1) (v.set n (wordOf f)) k w).data = w.data := by
    rcases Nat.lt_or_ge (n + 1) 4 with h | h
    · rw [idReadLoop_more _ k w h]
      rfl
    · rw [idReadLoop_last _ k w h]
      rfl
  have hincrement := sendsBits_append_right runU (sendW hdata)
  rw [hlenA] at hincrement
  rw [idReadLoop_more v k s hn]
  refine ⟨w, hw, ?_, (runOn_append_next runU bs).trans runW, fun p hp => ?_⟩
  · exact hsu.trans ⟨huw.pm, huw.pwr, huw.sen, huw.ts, huw.label, huw.seq, huw.done, huw.registers⟩
  · simp only [List.mem_cons, List.not_mem_nil, or_false] at hp
    obtain rfl | rfl := hp
    · exact sendsBits_append_left sendU (by simp [hlenA]) bs
    · exact hincrement

/-- `LoadConfig(0)` and the first `m` ID words, from a high tick: `44 + 54 * m` ticks. -/
theorem run_idWords {m : Nat} (g : Nat → WireFrame) (k : List Frame) {r : State} {is : List Input} (hm : m ≤ 4)
    (hr : r.Ready true) (hL : lockedFrom true is = true) (hlen : is.length = 44 + 54 * m)
    (ha : ∀ j < m, answers is (56 + 54 * j) (g j) ∧ wellFramed (g j)) :
    ∃ w : State, w.Ready true ∧ SentSince r w ∧
      runOn is (callLoadConfig 0#16 (.idAfterConfig :: k) r).notify = .next (idReadLoop m (collected g m) k w).notify ∧
      sendsBits is (callLoadConfig 0#16 (.idAfterConfig :: k) r).notify 0x00#16 6 2 ∧
      sendsBits is (callLoadConfig 0#16 (.idAfterConfig :: k) r).notify 0 16 14 ∧
      ∀ j < m, sendsCodes is (callLoadConfig 0#16 (.idAfterConfig :: k) r).notify
        (after (44 + 54 * j) [(0x04, 2), (0x06, 44)]) := by
  obtain ⟨as, bs, rfl, hlenA, hlenB, hLa, hLb⟩ := lockedFrom_split (n := 44) (m := 54 * m) hL hlen
  have hcall : callLoadConfig 0#16 (.idAfterConfig :: k) r =
      callSendBits 0x00#16 6 (.sendFrame 0#16 :: .join :: .idAfterConfig :: k)
        (r.setLabelProc (.waiting .loadConfig)) := by
    rcases callLoadConfig_cases 0#16 (.idAfterConfig :: k) r with ⟨h, -⟩ | ⟨-, e⟩
    · exact absurd h (by decide)
    · exact e
  obtain ⟨u, hu, hru, runU, codeU, frameU⟩ := run_writeVerb 0x00#16 0#16 .loadConfig (k := .idAfterConfig :: k) hr
    (by simp) hLa hlenA
  have hbody : ∀ j < 4, ∀ (s : State) (is : List Input), s.Ready true → SentSince r s → lockedFrom true is = true →
      is.length = 2 * 27 → answers is 12 (g j) ∧ wellFramed (g j) → ∃ w : State, w.Ready true ∧ SentSince r w ∧
        runOn is (idReadLoop j (collected g j) k s).notify =
          .next (idReadLoop (j + 1) (collected g (j + 1)) k w).notify ∧
        sendsCodes is (idReadLoop j (collected g j) k s).notify [(0x04, 2), (0x06, 44)] := by
    intro j hj s is hs ⟨l, hrs⟩ hL hlen ⟨ha, hf⟩
    obtain ⟨w, hw, hsw, hrun, hsends⟩ := run_idRead (collected g j) k hj hs hL hlen ha hf
    exact ⟨w, hw, ⟨_, hrs.trans hsw⟩, hrun, hsends⟩
  have hslice : ∀ j < m, answers ((bs.drop (54 * j)).take 54) 12 (g j) := by
    intro j hj
    have hbs : answers bs (54 * j + 12) (g j) := by
      refine answers_append_right (is := as) ?_
      rw [hlenA, show 44 + (54 * j + 12) = 56 + 54 * j by omega]
      exact (ha j hj).1
    exact answers_slice hbs (by omega) (by omega)
  obtain ⟨w, hw, hrw, runW, sendW⟩ := run_iterations (t := 27) (by simp) hbody hu ⟨_, hru⟩ m hm bs hLb (by omega)
    fun j hj => ⟨hslice j hj, (ha j hj).2⟩
  rw [hcall]
  refine ⟨w, hw, hrw, (runOn_append_next runU bs).trans runW, sendsBits_append_left codeU (by simp [hlenA]) bs,
    sendsBits_append_left (frameU rfl) (by simp [hlenA]) bs, fun j hj => ?_⟩
  have := sendsCodes_append_right runU (sendW j hj)
  simpa [after, hlenA, Nat.add_assoc] using this

/-- The three skips after the ID words, from a high tick: 36 ticks, then the band-gap read (R197). -/
theorem run_idSkips (v : FiveWords) (k : List Frame) {r s : State} {is : List Input} (hs : s.Ready true)
    (hr : SentSince r s) (hL : lockedFrom true is = true) (hlen : is.length = 36) :
    ∃ w : State, w.Ready true ∧ SentSince r w ∧
      runOn is (idSkipLoop 1 v k s).notify = .next (callReadProgram (.idAfterBandgap v :: k) w).notify ∧
      sendsCodes is (idSkipLoop 1 v k s).notify [(0x06, 2), (0x06, 14), (0x06, 26)] := by
  have hbody : ∀ j < 3, ∀ (s : State) (is : List Input), s.Ready true → SentSince r s → lockedFrom true is = true →
      is.length = 2 * 6 → True → ∃ w : State, w.Ready true ∧ SentSince r w ∧
        runOn is (idSkipLoop (j + 1) v k s).notify = .next (idSkipLoop (j + 1 + 1) v k w).notify ∧
        sendsCodes is (idSkipLoop (j + 1) v k s).notify [(0x06, 2)] := by
    intro j hj s is hs ⟨l, hrs⟩ hL hlen _
    obtain ⟨w, hw, hsw, hrun, hsends⟩ := run_codeVerb 0x06#16 .incrementAddress (k := .idAfterSkip (j + 1) v :: k) hs
      (by simp) hL hlen
    have hdata : (idSkipLoop (j + 1 + 1) v k w).data = w.data := by
      rcases Nat.lt_or_ge 3 (j + 1 + 1) with h | h
      · rw [idSkipLoop_last v k w h]
        rfl
      · rw [idSkipLoop_more v k w h]
        rfl
    rw [idSkipLoop_more v k s (by omega)]
    refine ⟨w, hw, ⟨_, hrs.trans hsw⟩, hrun, fun p hp => ?_⟩
    obtain rfl := List.mem_singleton.mp hp
    exact hsends hdata
  obtain ⟨w, hw, hrw, hrun, hsends⟩ := run_iterations (t := 6) (enter := fun j => idSkipLoop (j + 1) v k)
    (by simp) hbody hs hr 3 (Nat.le_refl 3) is hL hlen fun _ _ => trivial
  exact ⟨w, hw, hrw, hrun, sendsCodes_append.mpr ⟨hsends 0 (by omega),
    sendsCodes_append.mpr ⟨hsends 1 (by omega), hsends 2 (by omega)⟩⟩⟩

end Sys2Proof.Machine
end

section
/-! READ_ID_BANDGAP as a whole under the LOCKED schedule, from a tick of either level, and its badly framed answers (R195,
R197). -/

namespace Sys2Proof.Machine

/-! ### Reset from either level (R191, R192) -/

/-- `shutdown` from a tick of level `h`: it returns 7 ticks later from a low tick, 8 from a high one. -/
theorem run_shutdown {h : Bool} {c : List Frame} {s : State} {is : List Input} (hs : s.levels h) (hb : s.engine = .busy)
    (hm : s.main = some { point := .shutdownData, callers := c }) (hl : s.labelProc.suspended = false)
    (hL : lockedFrom h is = true) (hlen : is.length = 7 + h.toNat) :
    ∃ b : Bus, b.hi = true ∧ b.gate = false ∧ runOn is s = .next (returnTo c 0#16 (s.later b).shutDown).notify := by
  cases h with
  | true => exact run_shutdown_high hs hb hm hl hL hlen
  | false => exact run_shutdown_low hs hb hm hl hL hlen

/-- `reset` from a tick of level `h`: it returns 13 ticks later from a low tick, 14 from a high one. -/
theorem run_resetFrom {h : Bool} {k : List Frame} {s : State} {is : List Input} (hs : s.levels h) (hb : s.engine = .busy)
    (hl : s.labelProc = .idle) (hL : lockedFrom h is = true) (hlen : is.length = 13 + h.toNat) :
    ∃ w : State, w.Ready true ∧ Restarted s w ∧ runOn is (callReset k s).notify = .next (returnTo k 0#16 w).notify := by
  obtain ⟨as, bs, rfl, hlenA, hlenB, hLa, hLb⟩ := lockedFrom_split (n := 7 + h.toNat) (m := 6) hL (by omega)
  have hhigh : levelAfter h (7 + h.toNat) = true := by cases h <;> rfl
  have hquiet : s.labelProc.suspended = false := by rw [hl]; rfl
  obtain ⟨b, hb1, -, hdown⟩ := run_shutdown (s := (callReset k s).notify) (c := .resetAfterShutdown :: k) hs hb rfl hquiet
    hLa hlenA
  obtain ⟨b', hb1', -, hup⟩ := run_start_high (c := .resetAfterStart :: k)
    (s := (returnTo (.resetAfterShutdown :: k) 0#16 (((callReset k s).notify).later b).shutDown).notify) ⟨hb1, hb1⟩ rfl rfl
    hb rfl hquiet (hhigh ▸ hLb) hlenB
  refine ⟨_, ?_, ?_, (runOn_append_next hdown bs).trans hup⟩
  · exact ⟨⟨hb1', hb1'⟩, nofun, rfl, hb, hl⟩
  · exact ⟨rfl, rfl, rfl, rfl, rfl, ⟨rfl, rfl, rfl, rfl, rfl, rfl⟩⟩

/-! ### All five words (R197) -/

/-- The codes of `readIDAndBandGap` after its reset, each with its number from there (R197). -/
def identityCodes : List (Code × Nat) :=
  [(0x00, 2), (0x04, 46), (0x06, 88), (0x04, 100), (0x06, 142), (0x04, 154), (0x06, 196), (0x04, 208),
   (0x06, 250), (0x06, 262), (0x06, 274), (0x06, 286), (0x04, 298)]

/-- `readIDAndBandGap` after its reset, from a high tick, up to the framing check of its last answer: 339 ticks, 260 for the
ID words, 36 for the skips and 43 for the band gap. -/
theorem run_fiveWords (g : Nat → WireFrame) {f : WireFrame} (k : List Frame) {r : State} {is : List Input}
    (hr : r.Ready true) (hL : lockedFrom true is = true) (hlen : is.length = 339)
    (ha : ∀ j < 4, answers is (56 + 54 * j) (g j) ∧ wellFramed (g j)) (hf : answers is 308 f) :
    ∃ w : State, w.labelProc = .finished ∧ (w.setLabelProc .idle).Ready false ∧ Transferred .rx .readProgram r w ∧
      runOn is (callLoadConfig 0#16 (.idAfterConfig :: k) r).notify =
        .next (returnTo (.checkFrame .word :: .join :: .idAfterBandgap (collected g 4) :: k) f w).notify ∧
      sendsCodes is (callLoadConfig 0#16 (.idAfterConfig :: k) r).notify identityCodes ∧
      sendsBits is (callLoadConfig 0#16 (.idAfterConfig :: k) r).notify 0 16 14 := by
  obtain ⟨as, is', rfl, hlenA, hlen', hLa, hL'⟩ := lockedFrom_split (n := 260) (m := 79) hL hlen
  obtain ⟨bs, cs, rfl, hlenB, hlenC, hLb, hLc⟩ := lockedFrom_split (n := 36) (m := 43) hL' hlen'
  have hwords : ∀ j < 4, answers as (56 + 54 * j) (g j) ∧ wellFramed (g j) := fun j hj =>
    ⟨answers_append_left (ha j hj).1 (by omega), (ha j hj).2⟩
  have hans : answers cs 12 f := by
    refine answers_append_right (is := as ++ bs) ?_
    rw [List.append_assoc, List.length_append, hlenA, hlenB]
    exact hf
  obtain ⟨u, hu, hru, runU, codeU, frameU, sendU⟩ := run_idWords g k (Nat.le_refl 4) hr hLa hlenA hwords
  obtain ⟨v, hv, ⟨l, hrv⟩, runV, sendV⟩ := run_idSkips (collected g 4) k hu hru hLb hlenB
  obtain ⟨w, hwl, hw, hvw, runW, sendW⟩ := run_readVerb 0x04#16 .word .readProgram
    (.idAfterBandgap (collected g 4) :: k) hv hans hLc hlenC
  have runUV := (runOn_append_next runU bs).trans runV
  refine ⟨w, hwl, hw, hrv.trans hvw, ?run, ?codes, sendsBits_append_left frameU (by simp [hlenA]) (bs ++ cs)⟩
  case run =>
    rw [← List.append_assoc]
    exact (runOn_append_next runUV cs).trans runW
  case codes =>
    have hconfig := sendsBits_append_left codeU (by simp [hlenA]) (bs ++ cs)
    have hword : ∀ j < 4, sendsCodes (as ++ (bs ++ cs)) (callLoadConfig 0#16 (.idAfterConfig :: k) r).notify
        (after (44 + 54 * j) [(0x04, 2), (0x06, 44)]) := fun j hj =>
      sendsCodes_append_left (sendU j hj) (by simp [after, hlenA]; omega) (bs ++ cs)
    have hskips := sendsCodes_append_right runU (sendsCodes_append_left sendV (by simp [hlenB]) cs)
    have hread := sendsBits_append_right runUV sendW
    rw [hlenA] at hskips
    rw [List.append_assoc, List.length_append, hlenA, hlenB] at hread
    have hall := sendsCodes_append.mpr ⟨hword 0 (by omega), sendsCodes_append.mpr ⟨hword 1 (by omega),
      sendsCodes_append.mpr ⟨hword 2 (by omega), sendsCodes_append.mpr ⟨hword 3 (by omega),
        sendsCodes_append.mpr ⟨hskips, List.forall_mem_singleton (a := (0x04#6, 298)).mpr hread⟩⟩⟩⟩⟩
    exact List.forall_mem_cons.mpr ⟨hconfig, hall⟩

/-- `readIDAndBandGap` from a tick of level `h`, up to the framing check of its last answer: the reset, then the five
words. -/
theorem run_readIdBandgap {h : Bool} (g : Nat → WireFrame) {f : WireFrame} (k : List Frame) {s : State} {is : List Input}
    (hs : s.levels h) (hb : s.engine = .busy) (hl : s.labelProc = .idle) (hL : lockedFrom h is = true)
    (hlen : is.length = 352 + h.toNat)
    (ha : ∀ j < 4, answers is (69 + h.toNat + 54 * j) (g j) ∧ wellFramed (g j)) (hf : answers is (321 + h.toNat) f) :
    ∃ r w : State, Restarted s r ∧ w.labelProc = .finished ∧ (w.setLabelProc .idle).Ready false ∧
      Transferred .rx .readProgram r w ∧
      runOn is (callReadIdBandgap k s).notify =
        .next (returnTo (.checkFrame .word :: .join :: .idAfterBandgap (collected g 4) :: k) f w).notify ∧
      sendsCodes is (callReadIdBandgap k s).notify (after (13 + h.toNat) identityCodes) ∧
      sendsBits is (callReadIdBandgap k s).notify 0 16 (27 + h.toNat) := by
  obtain ⟨as, bs, rfl, hlenA, hlenB, hLa, hLb⟩ := lockedFrom_split (n := 13 + h.toNat) (m := 339) hL (by omega)
  have hhigh : levelAfter h (13 + h.toNat) = true := by cases h <;> rfl
  have hans : ∀ {first : Nat} {f : WireFrame}, answers (as ++ bs) (13 + h.toNat + first) f → answers bs first f :=
    fun ha => answers_append_right (is := as) (hlenA ▸ ha)
  obtain ⟨r, hr, hsr, runR⟩ := run_resetFrom (k := .idAfterReset :: k) hs hb hl hLa hlenA
  obtain ⟨w, hwl, hw, hrw, runW, codes, frame⟩ := run_fiveWords (f := f) g k hr (hhigh ▸ hLb) hlenB
    (fun j hj => ⟨hans (by convert (ha j hj).1 using 1; omega), (ha j hj).2⟩) (hans (by convert hf using 1; omega))
  refine ⟨r, w, hsr, hwl, hw, hrw, (runOn_append_next runR bs).trans runW, ?_, ?_⟩
  · rw [← hlenA]
    exact sendsCodes_append_right runR codes
  · have := sendsBits_append_right runR frame
    rwa [hlenA, show 13 + h.toNat + 14 = 27 + h.toNat by omega] at this

/-- The last answer, well framed: the five words go into the cache together, and `readIDAndBandGap` returns (R197). -/
theorem returnTo_bandgap {v : FiveWords} {f : WireFrame} {k : List Frame} {w : State} (hl : w.labelProc = .finished)
    (hf : wellFramed f) :
    returnTo (.checkFrame .word :: .join :: .idAfterBandgap v :: k) f w =
      returnTo k 0#16 (idStore (v.set 4 (wordOf f)) (w.setLabelProc .idle)) := by
  rw [returnTo_checkFrame w hf, returnTo_join hl (by simp), returnTo, setWidth_payloadOf_word]

/-- Five frames by their number, the last for every number from 4 on. -/
def fiveFrames (f0 f1 f2 f3 f4 : WireFrame) : Nat → WireFrame
  | 0 => f0
  | 1 => f1
  | 2 => f2
  | 3 => f3
  | _ => f4

/-- A statement about the first four frames is one about each. -/
theorem forall_fiveFrames {p : Nat → WireFrame → Prop} {f0 f1 f2 f3 : WireFrame} (f4 : WireFrame) (h0 : p 0 f0)
    (h1 : p 1 f1) (h2 : p 2 f2) (h3 : p 3 f3) : ∀ j < 4, p j (fiveFrames f0 f1 f2 f3 f4 j)
  | 0, _ => h0
  | 1, _ => h1
  | 2, _ => h2
  | 3, _ => h3

/-- Settles O48: the run up to the last sample (`run_readIdBandgap`), where the five words go into the cache and the request
ends (`returnTo_bandgap`). -/
theorem readIdBandgapCompletes : Obligations.ReadIdBandgapCompletes := by
  unfold Obligations.ReadIdBandgapCompletes
  intro s ⟨hb, _, hk, hl, _⟩ hs
  refine ⟨callReadIdBandgap [] s, by rw [← hk]; rfl, fun is f0 f1 f2 f3 f4 hL hlen a0 a1 a2 a3 a4 w0 w1 w2 w3 w4 => ?_⟩
  obtain ⟨r, w, hsr, hwl, hw, hrw, hrun, hcodes, hframe⟩ := run_readIdBandgap (h := true) (fiveFrames f0 f1 f2 f3 f4) [] hs
    hb hl hL hlen
    (forall_fiveFrames (p := fun j f => answers is (70 + 54 * j) f ∧ wellFramed f) f4 ⟨a0, w0⟩ ⟨a1, w1⟩ ⟨a2, w2⟩ ⟨a3, w3⟩) a4
  rw [returnTo_bandgap hwl w4] at hrun
  obtain ⟨hcache, hresult, -⟩ := keepsRegisters_trans hsr.registers hrw.registers
  refine ⟨hcodes, hframe, _, hrun, ⟨rfl, rfl, rfl, rfl⟩, ?_, ?_, ?_, hrw.seq.trans hsr.seq, hrw.ts, hrw.label, hresult, ?_⟩
  · show w.pm = _
    rw [hrw.pm, hsr.pm, Line.commit_of_none]
  · show w.pwr = _
    rw [hrw.pwr, hsr.pwr, Line.commit_of_none]
  · show w.sen = _
    rw [hrw.sen, hsr.sen, Line.commit_of_pend]
  · rw [← hcache]
    rfl

/-! ### A badly framed answer (R195, R250) -/

/-- The ID words are read 54 inputs apart (R197). -/
theorem idReadAt_word {n : Nat} (h : n < 4) : idReadAt n = 70 + 54 * n := by
  interval_cases n <;> rfl

/-- The first `n` ID words well, the next answer badly framed: FRAME at its last sample (R195). -/
theorem run_idWord_bad {n : Nat} (g : Nat → WireFrame) {f : WireFrame} {s : State} {is : List Input} (hn : n < 4)
    (hs : s.levels true) (hb : s.engine = .busy) (hl : s.labelProc = .idle) (hL : lockedFrom true is = true)
    (hlen : is.length = 101 + 54 * n) (ha : ∀ j < n, answers is (70 + 54 * j) (g j) ∧ wellFramed (g j))
    (hf : answers is (70 + 54 * n) f) :
    ∃ r w : State, Restarted s r ∧ Transferred .rx .readProgram r w ∧
      runOn is (callReadIdBandgap [] s).notify =
        .next (returnTo [.checkFrame .word, .join, .idAfterRead n (collected g n)] f w).notify := by
  obtain ⟨as, is', rfl, hlenA, hlen', hLa, hL'⟩ := lockedFrom_split (n := 14) (m := 87 + 54 * n) hL (by omega)
  obtain ⟨bs, cs, rfl, hlenB, hlenC, hLb, hLc⟩ := lockedFrom_split (n := 44 + 54 * n) (m := 43) hL' (by omega)
  rw [show 44 + 54 * n = 2 * (22 + 27 * n) by omega, levelAfter_even] at hLc
  have hwords : ∀ j < n, answers bs (56 + 54 * j) (g j) ∧ wellFramed (g j) := fun j hj => by
    have h := (ha j hj).1
    rw [show 70 + 54 * j = as.length + (56 + 54 * j) by omega] at h
    exact ⟨answers_append_left (answers_append_right h) (by omega), (ha j hj).2⟩
  have hans : answers cs 12 f := by
    rw [show 70 + 54 * n = as.length + (bs.length + 12) by omega] at hf
    exact answers_append_right (answers_append_right hf)
  obtain ⟨r, hr, hsr, runR⟩ := run_resetFrom (h := true) (k := [.idAfterReset]) hs hb hl hLa hlenA
  obtain ⟨u, hu, ⟨l, hru⟩, runU, -, -, -⟩ := run_idWords g [] (by omega) hr hLb hlenB hwords
  rw [idReadLoop_more _ _ _ hn] at runU
  obtain ⟨w, -, -, huw, runW, -⟩ := run_readVerb 0x04#16 .word .readProgram [.idAfterRead n (collected g n)] hu hans
    hLc hlenC
  refine ⟨r, w, hsr, hru.trans huw, (runOn_append_next runR _).trans ?_⟩
  exact (runOn_append_next runU cs).trans runW

/-- What a badly framed answer to an identity read leaves, after the reset and the reads before it (R195, R250). -/
theorem frameFault_of_identityRead {s r w : State} {k : List Frame} {f : WireFrame} {l : CommandLabel}
    (hsr : Restarted s r) (hrw : Transferred .rx l r w) (hf : ¬ wellFramed f) :
    faultedWith .frame (f.setWidth 32) (returnTo (.checkFrame .word :: k) f w).notify ∧
      (returnTo (.checkFrame .word :: k) f w).notify.cache = s.cache ∧
      (returnTo (.checkFrame .word :: k) f w).notify.result = s.result ∧
      (returnTo (.checkFrame .word :: k) f w).notify.seq = .running := by
  obtain ⟨hcache, hresult, -⟩ := keepsRegisters_trans hsr.registers hrw.registers
  rw [returnTo_checkFrame_bad w hf]
  exact ⟨⟨rfl, rfl, rfl, rfl, rfl⟩, hcache, hresult, hrw.seq.trans hsr.seq⟩

/-- Settles O49: each run ends at the framing check of the bad answer (`run_readOsccal`, `run_idWord_bad`,
`run_readIdBandgap`), which faults before any word goes into the cache (`frameFault_of_identityRead`). -/
theorem identityReadFaults : Obligations.IdentityReadFaults := by
  unfold Obligations.IdentityReadFaults
  intro s ⟨hb, _, hk, hl, _⟩ hs
  refine ⟨⟨callReadOsccal [] s, by rw [← hk]; rfl, fun is f hL hlen ha hf => ?osccal⟩,
    ⟨callReadIdBandgap [] s, by rw [← hk]; rfl, fun n is f hn hL hlen hgood ha hf => ?identity⟩⟩
  case osccal =>
    obtain ⟨r, w, hsr, -, -, hrw, hrun, -⟩ := run_readOsccal (k := []) hs hb hl hL hlen ha
    exact ⟨_, hrun, frameFault_of_identityRead hsr hrw hf⟩
  case identity =>
    have hchoice : ∀ j, ∃ g, j < n → wellFramed g ∧ answers is (idReadAt j) g := fun j => by
      by_cases hj : j < n
      · obtain ⟨g, hg⟩ := hgood j hj
        exact ⟨g, fun _ => hg⟩
      · exact ⟨0, fun h => absurd h hj⟩
    choose g hg using hchoice
    have hwords : ∀ j < n, j < 4 → answers is (70 + 54 * j) (g j) ∧ wellFramed (g j) := fun j hj h4 => by
      obtain ⟨hw, hans⟩ := hg j hj
      exact ⟨idReadAt_word h4 ▸ hans, hw⟩
    rcases Nat.lt_or_ge n 4 with h4 | h4
    · rw [idReadAt_word h4] at hlen ha
      obtain ⟨r, w, hsr, hrw, hrun⟩ := run_idWord_bad g h4 hs hb hl hL (by omega) (fun j hj => hwords j hj (by omega)) ha
      exact ⟨_, hrun, frameFault_of_identityRead hsr hrw hf⟩
    · obtain rfl : n = 4 := by omega
      obtain ⟨r, w, hsr, -, -, hrw, hrun, -⟩ := run_readIdBandgap (h := true) g [] hs hb hl hL hlen
        (fun j hj => hwords j hj hj) ha
      exact ⟨_, hrun, frameFault_of_identityRead hsr hrw hf⟩

end Sys2Proof.Machine
end

section
/-! PROGRAM_CYCLE with a read-back that agrees, and the preconditions of BULK_ERASE_DEVICE (R193, R198). -/

namespace Sys2Proof.Machine

/-- Settles O50: the call checks the three words in order, and `raise` is the only thing it does where one is missing
(`callBulkEraseDevice_cases`). -/
theorem bulkErasePreconditions : Obligations.BulkErasePreconditions := by
  unfold Obligations.BulkErasePreconditions
  intro s faulted
  have hcall : exec .bulkEraseDevice s = .next (callBulkEraseDevice s.callers s) := rfl
  rw [hcall]
  rcases callBulkEraseDevice_cases s.callers s with ⟨ho, e⟩ | ⟨ho, hi, e⟩ | ⟨ho, hi, hg, e⟩ | ⟨ho, hi, hg, -⟩
  · exact ⟨fun _ => congrArg _ e, by simp [ho], by simp [ho]⟩
  · exact ⟨by simp [ho], fun _ _ => congrArg _ e, by simp [hi]⟩
  · exact ⟨by simp [ho], by simp [hi], fun _ _ _ => congrArg _ e⟩
  · exact ⟨by simp [ho], by simp [hi], by simp [hg]⟩

/-- A read-back that agrees goes through the framing check and the join to IncrementAddress, in the same instant (R193). -/
theorem returnTo_readBack_agrees {d : Arg} {f : WireFrame} {k : List Frame} {w : State} (hl : w.labelProc = .finished)
    (hf : wellFramed f) (hd : (wordOf f).toNat = d.toNat) :
    returnTo (.checkFrame .word :: .join :: .programAfterRead d :: k) f w =
      callIncrementAddress (.programAfterIncrement d (wordOf f) :: k) (w.setLabelProc .idle) := by
  have hword : ((payloadOf .word f).setWidth 14).toNat = d.toNat := by rw [setWidth_payloadOf_word, hd]
  rw [returnTo_checkFrame w hf, returnTo_join hl fun d' c e => by cases e; exact hword, returnTo, setWidth_payloadOf_word]
  rcases programVerify_cases d (wordOf f) k (w.setLabelProc .idle) with ⟨-, e⟩ | ⟨hne, -⟩
  · exact e
  · exact absurd hd hne

/-- Settles O45: the run up to the last sample of the read-back (`run_programReadBack`), the agreeing word
(`returnTo_readBack_agrees`), and the 11 ticks of IncrementAddress from the low tick of that sample. The level of `data` is
that of the last bit sent. -/
theorem programCycleCompletes : Obligations.ProgramCycleCompletes := by
  unfold Obligations.ProgramCycleCompletes
  intro s d hd ⟨hb, _, hk, hl, hclk⟩ ⟨hsen, hraw⟩
  refine ⟨callProgramCycle d [] s, by rw [← hk]; rfl, fun is f hL hlen ha hf hword => ?_⟩
  obtain ⟨as, bs, rfl, hlenA, hlenB, hLa, hLb⟩ := lockedFrom_split (n := 105) (m := 11) hL hlen
  obtain ⟨w, hwl, hw, hsw, hrun, hcodes, hframe⟩ := run_programReadBack (k := []) hd
    ⟨⟨hclk, hraw⟩, nofun, by rw [hsen]; rfl, hb, hl⟩ hLa hlenA
    (answers_append_left ha (by omega))
  rw [returnTo_readBack_agrees hwl hf hword] at hrun
  obtain ⟨u, hu, hwu, runU, sendU⟩ := run_codeVerb 0x06#16 .incrementAddress
    (k := [.programAfterIncrement d (wordOf f)]) hw (by simp) hLb hlenB
  have hrun' := (runOn_append_next hrun bs).trans runU
  have hincrement := sendsBits_append_right hrun (sendU rfl)
  rw [hlenA] at hincrement
  refine ⟨?codes, ?frame, _, hrun', ⟨rfl, rfl, rfl, hu.idle⟩, ?data, ?sen, hwu.ts, hwu.label, ?registers⟩
  case codes =>
    exact sendsCodes_append.mpr ⟨sendsCodes_append_left hcodes (by simp [hlenA]) bs,
      List.forall_mem_singleton (a := (0x06#6, 106)).mpr hincrement⟩
  case frame =>
    rw [doubled_toNat]
    exact sendsBits_append_left hframe (by omega) bs
  case data =>
    obtain ⟨v, hv, hpend⟩ := hincrement 5 (by omega)
    rw [List.take_of_length_le (by simp [hlenA, hlenB])] at hv
    cases hrun'.symm.trans hv
    exact hpend
  case sen =>
    show u.sen = _
    rw [hwu.sen, State.setLabelProc_sen, hsw.sen, hsen, Line.commit_of_none, Line.commit_of_none]
  case registers =>
    obtain ⟨hcache, hresult, herr, hinfo, hreq, hparams⟩ := keepsRegisters_trans hsw.registers hwu.registers
    have hpm : u.pm = s.pm.commit := by rw [hwu.pm, State.setLabelProc_pm, hsw.pm, Line.commit_commit]
    have hpwr : u.pwr = s.pwr.commit := by rw [hwu.pwr, State.setLabelProc_pwr, hsw.pwr, Line.commit_commit]
    exact ⟨hresult, hpm, hpwr, hwu.seq.trans hsw.seq, hcache, herr, hinfo, hreq, hparams⟩

end Sys2Proof.Machine
end

section
/-! START, SHUTDOWN and RESET under every interleaving of the edges (R190 to R192, R194, R200): the stations a power
sequence waits at, from one clock rise to the next. -/

namespace Sys2Proof.Machine

/-! ### Stations -/

/-- A line at 1 with nothing pending (R26). -/
def Line.on : Line := { cur := true, pend := none }

/-- Where a power sequence stands: its main process, or none when it has completed, the four lines, the sequence state, and
whether `label` and `ts` have been written since its call (R190, R191). -/
structure Station where
  main : Option Process
  pm : Line
  pwr : Line
  data : Line
  sen : Line
  seq : SequenceState
  cleared : Bool

/-- The station once its pending writes have been committed (R63). -/
def Station.commit (x : Station) : Station :=
  { x with pm := x.pm.commit, pwr := x.pwr.commit, data := x.data.commit, sen := x.sen.commit }

@[simp] theorem Station.commit_commit (x : Station) : x.commit.commit = x.commit := by simp [Station.commit]

/-- The engine is at the station `x` of a power sequence that has left the registers of `s₀` alone; if no force has acted,
as `f` says, `ts` is Rest once it has been written (R22, R226). -/
structure Powering (f : Prop) (s₀ : State) (x : Station) (s : State) : Prop where
  main : s.main = x.main
  clocked : ∀ p, x.main = some p → p.point.callee = .start ∨ p.point.callee = .shutdown
  busy : ∀ p, x.main = some p → s.engine = .busy
  idle : x.main = none → s.engine = .idle ∧ s.done = true
  labelProc : s.labelProc = .idle
  pm : s.pm = x.pm
  pwr : s.pwr = x.pwr
  data : s.data = x.data
  sen : s.sen = x.sen
  seq : s.seq = x.seq
  label : x.cleared = true → s.label = .none
  ts : x.cleared = true → f → s.ts = .rest
  registers : keepsRegisters s₀ s

section powering

variable {f : Prop} {s₀ s : State} {x : Station} {i : Input}

theorem Powering.notify (h : Powering f s₀ x s) : Powering f s₀ x s.notify :=
  ⟨h.main, h.clocked, h.busy, h.idle, h.labelProc, h.pm, h.pwr, h.data, h.sen, h.seq, h.label, h.ts, h.registers⟩

theorem keepsRegisters_arrived (i : Input) (s : State) : keepsRegisters s (arrived i s) :=
  ⟨(regsKept_arrived i s).cache, (regsKept_arrived i s).result, arrived_errCode i s, arrived_errInfo i s, arrived_req i s,
    arrived_params i s⟩

/-- Steps 2 to 6 of an instant commit the lines of a station. -/
theorem Powering.arrived (h : Powering f s₀ x s) (hi : f → i.tsForceValid = false) :
    Powering f s₀ x.commit (arrived i s) where
  main := (arrived_main i s).trans h.main
  clocked := h.clocked
  busy p hp := (arrived_engine i s).trans (h.busy p hp)
  idle hn := ⟨(arrived_engine i s).trans (h.idle hn).1, (regsKept_arrived i s).done.trans (h.idle hn).2⟩
  labelProc := (arrived_labelProc i s).trans h.labelProc
  pm := (arrived_pm i s).trans (congrArg Line.commit h.pm)
  pwr := (arrived_pwr i s).trans (congrArg Line.commit h.pwr)
  data := (arrived_data i s).trans (congrArg Line.commit h.data)
  sen := (arrived_sen i s).trans (congrArg Line.commit h.sen)
  seq := (arrived_seq i s).trans h.seq
  label hc := (regsKept_arrived i s).label.trans (h.label hc)
  ts hc hf := by rw [arrived_ts, forcedTs_of_no_force (hi hf), h.ts hc hf]
  registers := keepsRegisters_trans h.registers (keepsRegisters_arrived i s)

/-- An edge that is no clock rise changes nothing at a station but what steps 2 to 6 do (R67, R221). -/
theorem Powering.step_quiet (h : Powering f s₀ x s) (hp : plainInstant i s = true)
    (he : (levelEvents s i).clkRise = false) : step (s.feed i) = .next (Machine.arrived i s).notify := by
  have hl : (Machine.arrived i s).labelProc = .idle := (arrived_labelProc i s).trans h.labelProc
  cases hm : x.main with
  | none =>
    have hpr : presented i s = false := by
      have : (!s.clk && i.clk) = false := he
      simp [presented, this]
    rw [step_plain hp]
    rcases accept_arrived_cases i s with ⟨-, e⟩ | ⟨hpr', -⟩ | ⟨hpr', -⟩
    · rw [e, runProcesses_none ((arrived_main i s).trans (h.main.trans hm)) hl]
      rfl
    · cases hpr.symm.trans hpr'
    · cases hpr.symm.trans hpr'
  | some p =>
    have hc := h.clocked p hm
    rw [step_suspended hp (h.busy p hm) (h.main.trans hm) (by rcases hc with e | e <;> rw [e] <;> decide),
      processed_of_not_suspended (by rw [hl]; rfl)]
    have hstay : p.point.released (instantEvents i s) (Machine.arrived i s) = false := by
      obtain ⟨pt, k⟩ := p
      cases pt <;> first | exact he | exact absurd hc (by simp [Point.callee])
    rw [resume, hstay]
    rfl

/-- A clock rise lets the process of a station go on, from what steps 2 to 6 leave (R67). -/
theorem Powering.step_rise {p : Process} (h : Powering f s₀ x s) (hm : x.main = some p) (hr : i.rst = false)
    (he : (levelEvents s i).clkRise = true) :
    step (s.feed i) = .next (p.point.goOn p.callers (Machine.arrived i s)).notify := by
  have hc := h.clocked p hm
  rw [step_suspended (plainInstant_of_clkRise he hr) (h.busy p hm) (h.main.trans hm)
    (by rcases hc with e | e <;> rw [e] <;> decide), processed_of_not_suspended (by rw [arrived_labelProc, h.labelProc]; rfl)]
  have hgo : p.point.released (instantEvents i s) (Machine.arrived i s) = true := by
    obtain ⟨pt, k⟩ := p
    cases pt <;> first | exact he | exact absurd hc (by simp [Point.callee])
  rw [resume, hgo]
  rfl

end powering

/-! ### From station to station -/

/-- The stations `x 0` to `x n` follow each other: the clock rise at each before the last leads to the next. -/
def FollowEach (f : Prop) (s₀ : State) (n : Nat) (x : Nat → Station) : Prop :=
  ∀ j < n, ∃ p, (x j).main = some p ∧
    ∀ a, Powering f s₀ (x j).commit a → Powering f s₀ (x (j + 1)) (p.point.goOn p.callers a)

section stations

variable {f : Prop} {s₀ : State} {n : Nat} {x : Nat → Station}

/-- At a station, or at it with its writes committed. -/
def AtStation (f : Prop) (s₀ : State) (x : Station) (s : State) : Prop :=
  Powering f s₀ x s ∨ Powering f s₀ x.commit s

/-- A step without a clock rise stays at the station. -/
theorem AtStation.step_waits {y : Station} {s : State} {i : Input} (h : AtStation f s₀ y s) (hr : i.rst = false)
    (hi : f → i.tsForceValid = false) (he : (levelEvents s i).clkRise = false) :
    ∃ t, step (s.feed i) = .next t ∧ AtStation f s₀ y t ∧ t.clk = i.clk := by
  cases hany : (levelEvents s i).any with
  | false =>
    obtain ⟨hclk, -, -⟩ := tsAfter_of_no_edge hany
    refine ⟨_, step_of_no_edge hany, h.imp ?_ ?_, hclk.symm⟩ <;> intro g <;>
      exact ⟨g.main, g.clocked, g.busy, g.idle, g.labelProc, g.pm, g.pwr, g.data, g.sen, g.seq, g.label, g.ts, g.registers⟩
  | true =>
    have hp : plainInstant i s = true := by simp [plainInstant, hany, hr]
    rcases h with g | g
    · exact ⟨_, g.step_quiet hp he, .inr (g.arrived hi).notify, arrived_clk i s⟩
    · exact ⟨_, g.step_quiet hp he, .inr (Station.commit_commit y ▸ (g.arrived hi).notify), arrived_clk i s⟩

/-- A clock rise leads from a station to the next. -/
theorem FollowEach.step_next {j : Nat} {s : State} {i : Input} (hx : FollowEach f s₀ n x) (hj : j < n)
    (h : AtStation f s₀ (x j) s) (hr : i.rst = false) (hi : f → i.tsForceValid = false)
    (he : (levelEvents s i).clkRise = true) :
    ∃ t, step (s.feed i) = .next t ∧ Powering f s₀ (x (j + 1)) t ∧ t.clk = i.clk ∧ t.rawStb = rawLevel s.params i := by
  obtain ⟨p, hm, hgo⟩ := hx j hj
  have hbus := busKept_goOn p.point p.callers (arrived i s)
  have hclk := hbus.clk.trans (arrived_clk i s)
  have hraw := hbus.rawStb.trans (arrived_rawStb i s)
  rcases h with g | g
  · exact ⟨_, g.step_rise hm hr he, (hgo _ (g.arrived hi)).notify, hclk, hraw⟩
  · exact ⟨_, g.step_rise hm hr he, (hgo _ (Station.commit_commit (x j) ▸ g.arrived hi)).notify, hclk, hraw⟩

/-- THE RUN THROUGH THE STATIONS, under every interleaving: one station further with each clock rise, and right there when
the last input brings the rise (R67). -/
theorem FollowEach.run (hx : FollowEach f s₀ n x) (is : List Input) : ∀ {j : Nat} {s : State}, AtStation f s₀ (x j) s →
    noReset is = true → (f → noForce is = true) → j + clockRises s.clk is ≤ n →
    ∃ u, runOn is s = .next u ∧ AtStation f s₀ (x (j + clockRises s.clk is)) u ∧
      ∀ r, endsAtRise s.clk r is → Powering f s₀ (x (j + r)) u := by
  induction is with
  | nil =>
    intro j s h _ _ _
    refine ⟨s, rfl, h, fun r he => ?_⟩
    cases r with
    | zero => exact absurd he.2 (by omega)
    | succ r => exact absurd rfl (endsAtRise_ne_nil he)
  | cons i is ih =>
    intro j s h hr hf hn
    obtain ⟨hi, his⟩ := Bool.and_eq_true_iff.mp hr
    rw [Bool.not_eq_true'] at hi
    have hforce : f → i.tsForceValid = false := fun g => by
      simpa using (Bool.and_eq_true_iff.mp (hf g)).1
    have hforces : f → noForce is = true := fun g => (Bool.and_eq_true_iff.mp (hf g)).2
    cases he : (levelEvents s i).clkRise with
    | false =>
      have hrise : (!s.clk && i.clk) = false := he
      obtain ⟨t, hstep, ht, hclk⟩ := h.step_waits hi hforce he
      have hcount : clockRises s.clk (i :: is) = clockRises t.clk is := by
        rw [clockRises, hrise, hclk]
        exact Nat.zero_add _
      rw [hcount] at hn ⊢
      obtain ⟨u, hrun, hu, hend⟩ := ih ht his hforces hn
      refine ⟨u, (runOn_cons_next hstep).trans hrun, hu, fun r hends => ?_⟩
      cases r with
      | zero => exact absurd hends.2 (by omega)
      | succ r =>
        rcases endsAtRise_cons hends with ⟨g, -⟩ | ⟨g, -⟩ | ⟨-, hlater⟩
        · cases hrise.symm.trans g
        · cases hrise.symm.trans g
        · exact hend _ (hclk ▸ hlater)
    | true =>
      have hrise : (!s.clk && i.clk) = true := he
      have hcount : clockRises s.clk (i :: is) = 1 + clockRises i.clk is := by rw [clockRises, hrise]; rfl
      rw [hcount] at hn ⊢
      obtain ⟨t, hstep, ht, hclk, -⟩ := hx.step_next (by omega) h hi hforce he
      rw [← hclk, ← Nat.add_assoc] at hn ⊢
      obtain ⟨u, hrun, hu, hend⟩ := ih (.inl ht) his hforces hn
      refine ⟨u, (runOn_cons_next hstep).trans hrun, hu, fun r hends => ?_⟩
      cases r with
      | zero => exact absurd hends.2 (by omega)
      | succ r =>
        rcases endsAtRise_cons hends with ⟨-, rfl, rfl⟩ | ⟨-, r', rfl, hlater⟩ | ⟨g, -⟩
        · cases hrun
          exact ht
        · have := hend _ (hclk ▸ hlater)
          rwa [show j + (r' + 1 + 1) = j + 1 + (r' + 1) by omega]
        · cases hrise.symm.trans g

end stations

/-! ### The stations of START, SHUTDOWN and RESET (R190 to R192) -/

/-- The stations of `start`, called with the lines of `s` for callers that end the request. -/
def startStation (s : State) (cleared : Bool) (c : List Frame) : Nat → Station
  | 0 => { main := some { point := .startPm, callers := c }, pm := s.pm.write false, pwr := s.pwr.write false,
           data := s.data.write false, sen := s.sen.write false, seq := s.seq, cleared := cleared }
  | 1 => { main := some { point := .startPwr, callers := c }, pm := Line.reset.write true, pwr := .reset, data := .reset,
           sen := .reset, seq := s.seq, cleared := true }
  | 2 => { main := some { point := .startSen, callers := c }, pm := .on, pwr := Line.reset.write true, data := .reset,
           sen := .reset, seq := s.seq, cleared := true }
  | _ => { main := none, pm := .on, pwr := .on, data := .reset, sen := Line.reset.write true, seq := .running,
           cleared := true }

/-- The stations of `shutdown`, called with the lines of `s` for callers that end the request. -/
def shutdownStation (s : State) (c : List Frame) : Nat → Station
  | 0 => { main := some { point := .shutdownData, callers := c }, pm := s.pm, pwr := s.pwr, data := s.data, sen := s.sen,
           seq := .shuttingDown, cleared := false }
  | 1 => { main := some { point := .shutdownPm, callers := c }, pm := s.pm.commit, pwr := s.pwr.commit,
           data := s.data.commit.write false, sen := s.sen.commit.write false, seq := .shuttingDown, cleared := true }
  | 2 => { main := some { point := .shutdownPwr, callers := c }, pm := s.pm.commit.write false, pwr := s.pwr.commit,
           data := .reset, sen := .reset, seq := .shuttingDown, cleared := true }
  | 3 => { main := some { point := .shutdownEnd, callers := c }, pm := .reset, pwr := s.pwr.commit.write false,
           data := .reset, sen := .reset, seq := .shuttingDown, cleared := true }
  | _ => { main := none, pm := .reset, pwr := .reset, data := .reset, sen := .reset, seq := .uninitialized,
           cleared := true }

/-- The stations of `reset`: those of `shutdown`, then those of `start` with all lines at 0 (R192). -/
def resetStation (s : State) : Nat → Station
  | 0 => shutdownStation s [.resetAfterShutdown] 0
  | 1 => shutdownStation s [.resetAfterShutdown] 1
  | 2 => shutdownStation s [.resetAfterShutdown] 2
  | 3 => shutdownStation s [.resetAfterShutdown] 3
  | j + 4 => startStation s.shutDown true [.resetAfterStart] j

section follow

variable {f : Prop} {s₀ : State} (s : State) {c : List Frame}

theorem powering_callStart (hb : s.engine = .busy) (hl : s.labelProc = .idle) :
    Powering f s (startStation s false c 0) (callStart c s).notify :=
  ⟨rfl, by rintro _ ⟨⟩; exact .inl rfl, fun _ _ => hb, nofun, hl, rfl, rfl, rfl, rfl, rfl, nofun, nofun,
    rfl, rfl, rfl, rfl, rfl, rfl⟩

theorem powering_callShutdown (hb : s.engine = .busy) (hl : s.labelProc = .idle) :
    Powering f s (shutdownStation s c 0) (callShutdown c s).notify :=
  ⟨rfl, by rintro _ ⟨⟩; exact .inr rfl, fun _ _ => hb, nofun, hl, rfl, rfl, rfl, rfl, rfl, nofun, nofun,
    rfl, rfl, rfl, rfl, rfl, rfl⟩

/-- The stations of `start` follow each other, the last where its return ends the request (R190). -/
theorem followEach_start (cleared : Bool) (hc : ∀ t, returnTo c 0#16 t = t.complete) :
    FollowEach f s₀ 3 (startStation s cleared c)
  | 0, _ => ⟨_, rfl, fun _ h =>
      ⟨rfl, by rintro _ ⟨⟩; exact .inl rfl, fun _ _ => h.busy _ rfl, nofun, h.labelProc, congrArg (·.write true) h.pm, h.pwr,
        h.data, h.sen, h.seq, fun _ => rfl, fun _ _ => rfl, h.registers⟩⟩
  | 1, _ => ⟨_, rfl, fun _ h =>
      ⟨rfl, by rintro _ ⟨⟩; exact .inl rfl, fun _ _ => h.busy _ rfl, nofun, h.labelProc, h.pm,
        congrArg (·.write true) h.pwr, h.data, h.sen, h.seq, h.label, h.ts, h.registers⟩⟩
  | 2, _ => ⟨_, rfl, fun a h => by
      show Powering f s₀ _ (returnTo c 0#16 (startSenEdge a))
      rw [hc]
      exact ⟨rfl, nofun, nofun, fun _ => ⟨rfl, rfl⟩, h.labelProc, h.pm, h.pwr, h.data, congrArg (·.write true) h.sen, rfl,
        h.label, h.ts, h.registers⟩⟩

/-- The stations of `shutdown` before its return follow each other, whoever called it (R191). -/
theorem followEach_shutdown_waits : FollowEach f s₀ 3 (shutdownStation s c)
  | 0, _ => ⟨_, rfl, fun _ h =>
      ⟨rfl, by rintro _ ⟨⟩; exact .inr rfl, fun _ _ => h.busy _ rfl, nofun, h.labelProc, h.pm, h.pwr,
        congrArg (·.write false) h.data, congrArg (·.write false) h.sen, h.seq, fun _ => rfl, fun _ _ => rfl,
        h.registers⟩⟩
  | 1, _ => ⟨_, rfl, fun _ h =>
      ⟨rfl, by rintro _ ⟨⟩; exact .inr rfl, fun _ _ => h.busy _ rfl, nofun, h.labelProc,
        congrArg (·.write false) (h.pm.trans (Line.commit_commit _)), h.pwr.trans (Line.commit_commit _), h.data, h.sen,
        h.seq, h.label, h.ts, h.registers⟩⟩
  | 2, _ => ⟨_, rfl, fun _ h =>
      ⟨rfl, by rintro _ ⟨⟩; exact .inr rfl, fun _ _ => h.busy _ rfl, nofun, h.labelProc, h.pm,
        congrArg (·.write false) (h.pwr.trans (Line.commit_commit _)), h.data, h.sen, h.seq, h.label, h.ts, h.registers⟩⟩

/-- The stations of `shutdown` follow each other, the last where its return ends the request (R191). -/
theorem followEach_shutdown (hc : ∀ t, returnTo c 0#16 t = t.complete) : FollowEach f s₀ 4 (shutdownStation s c) := by
  intro j hj
  rcases Nat.lt_succ_iff_lt_or_eq.mp hj with h3 | rfl
  · exact followEach_shutdown_waits s j h3
  · refine ⟨_, rfl, fun a h => ?_⟩
    show Powering f s₀ _ (returnTo c 0#16 (shutdownEndEdge a))
    rw [hc]
    exact ⟨rfl, nofun, nofun, fun _ => ⟨rfl, rfl⟩, h.labelProc, h.pm, h.pwr, h.data, h.sen, rfl, h.label, h.ts, h.registers⟩

/-- The stations of `reset` follow each other: the return of `shutdown` is the call of `start` (R192). -/
theorem followEach_reset : FollowEach f s₀ 7 (resetStation s)
  | 0, _ => followEach_shutdown_waits s 0 (by omega)
  | 1, _ => followEach_shutdown_waits s 1 (by omega)
  | 2, _ => followEach_shutdown_waits s 2 (by omega)
  | 3, _ => ⟨_, rfl, fun _ h =>
      ⟨rfl, by rintro _ ⟨⟩; exact .inl rfl, fun _ _ => h.busy _ rfl, nofun, h.labelProc, congrArg (·.write false) h.pm,
        congrArg (·.write false) h.pwr, congrArg (·.write false) h.data, congrArg (·.write false) h.sen, rfl, h.label, h.ts,
        h.registers⟩⟩
  | j + 4, hj => followEach_start s.shutDown true (fun _ => rfl) j (by omega)

end follow

/-! ### The statements under every interleaving -/

theorem Powering.completed {f : Prop} {s₀ s : State} {x : Station} (h : Powering f s₀ x s) (hm : x.main = none) :
    completed s := ⟨(h.idle hm).1, (h.idle hm).2, h.main.trans hm, h.labelProc⟩

/-- Settles O42: the run through the stations of `shutdown` (`followEach_shutdown`) to the fourth. -/
theorem shutdownCompletes : Obligations.ShutdownCompletes := by
  unfold Obligations.ShutdownCompletes
  intro s ⟨hb, _, hk, hl, hclk⟩
  refine ⟨callShutdown [] s, by rw [← hk]; rfl, rfl, fun is hr he => ?_⟩
  rw [← hclk] at he
  obtain ⟨u, hrun, -, hend⟩ := (followEach_shutdown (f := noForce is = true) s fun _ => rfl).run is
    (.inl (powering_callShutdown (c := []) s hb hl)) hr id (by rw [Nat.zero_add]; exact Nat.le_of_eq he.1)
  have h := hend 4 he
  exact ⟨u, hrun, h.completed rfl, ⟨h.pm, h.pwr, h.data, h.sen, h.seq⟩, h.label rfl, h.ts rfl, h.registers⟩

/-- Settles O43: the run through the stations of `reset` (`followEach_reset`) to the seventh. -/
theorem resetCompletes : Obligations.ResetCompletes := by
  unfold Obligations.ResetCompletes
  intro s ⟨hb, _, hk, hl, hclk⟩
  refine ⟨callReset [] s, by rw [← hk]; rfl, rfl, fun is hr he => ?_⟩
  rw [← hclk] at he
  obtain ⟨u, hrun, -, hend⟩ := (followEach_reset (f := noForce is = true) s).run is
    (s := (callReset [] s).notify) (.inl (powering_callShutdown (c := [.resetAfterShutdown]) s hb hl)) hr id
    (by rw [Nat.zero_add]; exact Nat.le_of_eq he.1)
  have h := hend 7 he
  exact ⟨u, hrun, h.completed rfl, ⟨h.pm, h.pwr, h.data, h.sen, h.seq⟩, h.label rfl, h.ts rfl, h.registers⟩

/-- At every station of `start` its first writes are pending, or power is on only with program-mode and the strobe enabled
only with power (R200). -/
theorem power_order_start {f : Prop} {s₀ s u : State} {cleared : Bool} {c : List Frame} {j : Nat}
    (h : AtStation f s₀ (startStation s cleared c j) u) :
    u.pm.pend = some false ∨ ((u.pwr.cur = true → u.pm.cur = true) ∧ (u.sen.cur = true → u.pwr.cur = true)) := by
  match j, h with
  | 0, .inl h => exact .inl (by rw [h.pm]; rfl)
  | 0, .inr h => exact .inr (by rw [h.pwr, h.sen]; exact ⟨nofun, nofun⟩)
  | 1, .inl h => exact .inr (by rw [h.pwr, h.sen]; exact ⟨nofun, nofun⟩)
  | 1, .inr h => exact .inr (by rw [h.pwr, h.sen]; exact ⟨nofun, nofun⟩)
  | 2, .inl h => exact .inr (by rw [h.pwr, h.sen]; exact ⟨nofun, nofun⟩)
  | 2, .inr h => exact .inr (by rw [h.pm, h.sen]; exact ⟨fun _ => rfl, nofun⟩)
  | _ + 3, .inl h => exact .inr (by rw [h.pm, h.pwr]; exact ⟨fun _ => rfl, fun _ => rfl⟩)
  | _ + 3, .inr h => exact .inr (by rw [h.pm, h.pwr]; exact ⟨fun _ => rfl, fun _ => rfl⟩)

/-- At every station of a `shutdown` of a powered target program-mode is off only with the strobe disabled, and power only
with program-mode off (R200). -/
theorem power_order_shutdown {f : Prop} {s₀ s u : State} {c : List Frame} {j : Nat} (hpm : s.pm = .on)
    (hpwr : s.pwr = .on) (h : AtStation f s₀ (shutdownStation s c j) u) :
    (u.pm.cur = false → u.sen.cur = false) ∧ (u.pwr.cur = false → u.pm.cur = false) := by
  match j, h with
  | 0, .inl h => rw [h.pm, h.pwr]; simp [shutdownStation, hpm, hpwr, Line.on]
  | 0, .inr h => rw [h.pm, h.pwr]; simp [shutdownStation, Station.commit, hpm, hpwr, Line.on]
  | 1, .inl h => rw [h.pm, h.pwr]; simp [shutdownStation, hpm, hpwr, Line.on]
  | 1, .inr h => rw [h.pm, h.pwr]; simp [shutdownStation, Station.commit, hpm, hpwr, Line.on]
  | 2, .inl h => rw [h.pm, h.pwr, h.sen]; simp [shutdownStation, hpwr, Line.on, Line.reset]
  | 2, .inr h => rw [h.pm, h.pwr, h.sen]; simp [shutdownStation, Station.commit, hpwr, Line.on, Line.reset]
  | 3, .inl h => rw [h.pm, h.pwr, h.sen]; exact ⟨fun _ => rfl, fun _ => rfl⟩
  | 3, .inr h => rw [h.pm, h.pwr, h.sen]; exact ⟨fun _ => rfl, fun _ => rfl⟩
  | _ + 4, .inl h => rw [h.pm, h.sen]; exact ⟨fun _ => rfl, fun _ => rfl⟩
  | _ + 4, .inr h => rw [h.pm, h.sen]; exact ⟨fun _ => rfl, fun _ => rfl⟩

/-- Settles O44: every instant of the two runs is at a station (`FollowEach.run`), and at each the order holds
(`power_order_start`, `power_order_shutdown`). -/
theorem powerOrder : Obligations.PowerOrder := by
  unfold Obligations.PowerOrder
  intro s is ⟨hb, _, hk, hl, hclk⟩ hr
  refine ⟨fun hn => ⟨callStart [] s, by rw [← hk]; rfl, ?_⟩, fun hn hpm hpwr => ⟨callShutdown [] s, by rw [← hk]; rfl, ?_⟩⟩
  · obtain ⟨u, hrun, hu, -⟩ := (followEach_start (f := False) s false fun _ => rfl).run is
      (.inl (powering_callStart (c := []) s hb hl)) hr nofun (by rw [Nat.zero_add]; exact hclk ▸ hn)
    exact ⟨u, hrun, power_order_start hu⟩
  · obtain ⟨u, hrun, hu, -⟩ := (followEach_shutdown (f := False) s fun _ => rfl).run is
      (.inl (powering_callShutdown (c := []) s hb hl)) hr nofun (by rw [Nat.zero_add]; exact hclk ▸ hn)
    exact ⟨u, hrun, power_order_shutdown hpm hpwr hu⟩

end Sys2Proof.Machine
end

section
/-! CLEAN_DEVICE and SESSION under the LOCKED schedule (R196 to R200, R204): the two identity reads, the erase, and the
power-down tick by tick. -/

namespace Sys2Proof.Machine

/-! ### The identity reads one after the other (R196, R197, R199) -/

/-- The OSCCAL word, well framed and not refused: it goes into the cache, and `readOSCCAL` returns (R5, R196). -/
theorem returnTo_osccal {f : WireFrame} {k : List Frame} {w : State} (hl : w.labelProc = .finished) (hf : wellFramed f)
    (hok : w.params.osccalCheck = false ∨ Config.osccalValid (wordOf f) = true) :
    returnTo (.checkFrame .word :: .join :: .osccalAfterRead :: k) f w =
      returnTo k 0#16
        ((w.setLabelProc .idle).setCache { w.cache with osccal := wordOf f, osccalValid := true }) := by
  rw [returnTo_checkFrame w hf, returnTo_join hl (by simp), returnTo, setWidth_payloadOf_word]
  rcases osccalStore_cases (wordOf f) (w.setLabelProc .idle) with ⟨-, e⟩ | ⟨hc, hv, -⟩
  · rw [e]
    rfl
  · rcases hok with h | h
    · cases h.symm.trans hc
    · cases h.symm.trans hv

/-- The cache with the words of the frame `f` and of the first five frames `g` (R39). -/
def filledCache (f : WireFrame) (g : Nat → WireFrame) : IdentityCache :=
  { osccal := wordOf f, osccalValid := true, id0 := wordOf (g 0), id1 := wordOf (g 1), id2 := wordOf (g 2),
    id3 := wordOf (g 3), bandgap := wordOf (g 4), idValid := true, bandgapValid := true }

/-- What the two identity reads of `cleanDevice` make of `s`: the target powered, the cache full (R39, R192). -/
structure Identified (c : IdentityCache) (s w : State) : Prop where
  pm : w.pm = .on
  pwr : w.pwr = .on
  sen : w.sen = .on
  seq : w.seq = .running
  cache : w.cache = c
  result : w.result = s.result

/-- Both identity reads from a high tick: 445 ticks, 93 for the OSCCAL word and 352, from the low tick of its last sample,
for the others. -/
theorem run_identityReads {f : WireFrame} (g : Nat → WireFrame) {k : List Frame} {s : State} {is : List Input}
    (hs : s.levels true) (hb : s.engine = .busy) (hl : s.labelProc = .idle) (hL : lockedFrom true is = true)
    (hlen : is.length = 445) (hf : answers is 62 f ∧ wellFramed f)
    (hg : ∀ j < 4, answers is (162 + 54 * j) (g j) ∧ wellFramed (g j)) (hg4 : answers is 414 (g 4) ∧ wellFramed (g 4))
    (hok : s.params.osccalCheck = false ∨ Config.osccalValid (wordOf f) = true) :
    ∃ w : State, w.Ready false ∧ Identified (filledCache f g) s w ∧
      runOn is (callCleanDevice k s).notify = .next (returnTo (.cleanAfterId :: k) 0#16 w).notify := by
  obtain ⟨as, bs, rfl, hlenA, hlenB, hLa, hLb⟩ := lockedFrom_split (n := 93) (m := 352) hL hlen
  have hans : ∀ {first : Nat} {f : WireFrame}, answers (as ++ bs) (93 + first) f → answers bs first f :=
    fun ha => answers_append_right (is := as) (hlenA ▸ ha)
  obtain ⟨r, u, hsr, hul, hu, hru, runU, -⟩ := run_readOsccal (k := .cleanAfterOsccal :: k) hs hb hl hLa hlenA
    (answers_append_left hf.1 (by omega))
  obtain ⟨ucache, uresult, -, -, -, uparams⟩ := keepsRegisters_trans hsr.registers hru.registers
  rw [returnTo_osccal hul hf.2 (uparams ▸ hok)] at runU
  obtain ⟨r', w, hur, hwl, hw, hrw, runW, -, -⟩ := run_readIdBandgap (h := false) g (.cleanAfterId :: k)
    (s := (u.setLabelProc .idle).setCache { u.cache with osccal := wordOf f, osccalValid := true }) hu.levels hu.busy
    hu.idle hLb hlenB (fun j hj => ⟨hans (by convert (hg j hj).1 using 1; simp; omega), (hg j hj).2⟩) (hans hg4.1)
  rw [returnTo_bandgap hwl hg4.2] at runW
  obtain ⟨wcache, wresult, -⟩ := keepsRegisters_trans hur.registers hrw.registers
  refine ⟨idStore ((collected g 4).set 4 (wordOf (g 4))) (w.setLabelProc .idle),
    ⟨hw.levels, hw.gate, hw.sen, hw.busy, hw.idle⟩, ⟨?_, ?_, ?_, hrw.seq.trans hur.seq, ?_, wresult.trans uresult⟩,
    (runOn_append_next runU bs).trans runW⟩
  · show w.pm = _
    rw [hrw.pm, hur.pm, Line.commit_of_none]
    rfl
  · show w.pwr = _
    rw [hrw.pwr, hur.pwr, Line.commit_of_none]
    rfl
  · show w.sen = _
    rw [hrw.sen, hur.sen, Line.commit_of_pend]
    rfl
  · rw [idStore, State.setCache_cache, State.setLabelProc_cache, wcache]
    rfl

/-! ### cleanDevice (R199) -/

/-- The erases of `bulkEraseDevice` from a tick of level `h`: 35 ticks from a low tick, 36 from a high one (R198). -/
theorem run_erases {h : Bool} {k : List Frame} {s : State} {is : List Input} (hs : s.Ready h)
    (hL : lockedFrom h is = true) (hlen : is.length = 35 + h.toNat) :
    ∃ w : State, w.Ready true ∧ Rested .eraseData s w ∧
      runOn is (callEraseProgram (.bulkAfterProgram :: k) s).notify = .next (returnTo k 0#16 w).notify ∧
      sendsCodes is (callEraseProgram (.bulkAfterProgram :: k) s).notify [(0x09, 1 + h.toNat), (0x0B, 19 + h.toNat)] := by
  obtain ⟨as, bs, rfl, hlenA, hlenB, hLa, hLb⟩ := lockedFrom_split (n := 17 + h.toNat) (m := 18) hL (by omega)
  have hhigh : levelAfter h (17 + h.toNat) = true := by cases h <;> rfl
  rw [hhigh] at hLb
  obtain ⟨u, hu, hsu, runU, sendU⟩ := run_timedVerb 0x09#16 .eraseProgram (k := .bulkAfterProgram :: k) hs (by simp)
    hLa hlenA
  obtain ⟨w, hw, huw, runW, sendW⟩ := run_timedVerb 0x0B#16 .eraseData (k := .bulkAfterData :: k) hu (by simp) hLb hlenB
  have hdata := sendsBits_append_right runU sendW
  rw [hlenA, show 17 + h.toNat + (1 + true.toNat) = 19 + h.toNat by simp; omega] at hdata
  exact ⟨w, hw, hsu.trans huw, (runOn_append_next runU bs).trans runW, List.forall_mem_cons.mpr
    ⟨sendsBits_append_left sendU (by omega) bs, List.forall_mem_singleton.mpr hdata⟩⟩

/-- With the cache full `bulkEraseDevice` begins with the first erase (R198). -/
theorem callBulkEraseDevice_filled {f : WireFrame} {g : Nat → WireFrame} (k : List Frame) {s : State}
    (h : s.cache = filledCache f g) : callBulkEraseDevice k s = callEraseProgram (.bulkAfterProgram :: k) s := by
  rcases callBulkEraseDevice_cases k s with ⟨e, -⟩ | ⟨-, e, -⟩ | ⟨-, -, e, -⟩ | ⟨-, -, -, e⟩
  · rw [h] at e; cases e
  · rw [h] at e; cases e
  · rw [h] at e; cases e
  · exact e

/-- `cleanDevice` from a high tick: it returns 480 ticks later, 445 for the identity reads and 35 for the erases. -/
theorem run_cleanDevice {f : WireFrame} (g : Nat → WireFrame) {k : List Frame} {s : State} {is : List Input}
    (hs : s.levels true) (hb : s.engine = .busy) (hl : s.labelProc = .idle) (hL : lockedFrom true is = true)
    (hlen : is.length = 480) (hf : answers is 62 f ∧ wellFramed f)
    (hg : ∀ j < 4, answers is (162 + 54 * j) (g j) ∧ wellFramed (g j)) (hg4 : answers is 414 (g 4) ∧ wellFramed (g 4))
    (hok : s.params.osccalCheck = false ∨ Config.osccalValid (wordOf f) = true) :
    ∃ u w : State, Identified (filledCache f g) s u ∧ Rested .eraseData u w ∧ w.Ready true ∧
      runOn is (callCleanDevice k s).notify = .next (returnTo k 0#16 w).notify ∧
      sendsCodes is (callCleanDevice k s).notify [(0x09, 446), (0x0B, 464)] := by
  obtain ⟨as, bs, rfl, hlenA, hlenB, hLa, hLb⟩ := lockedFrom_split (n := 445) (m := 35) hL hlen
  have hans : ∀ {first : Nat} {f : WireFrame}, first < 415 → answers (as ++ bs) first f → answers as first f :=
    fun hlt ha => answers_append_left ha (by omega)
  obtain ⟨u, hu, hsu, runU⟩ := run_identityReads g (k := k) hs hb hl hLa hlenA ⟨hans (by omega) hf.1, hf.2⟩
    (fun j hj => ⟨hans (by omega) (hg j hj).1, (hg j hj).2⟩) ⟨hans (by omega) hg4.1, hg4.2⟩ hok
  obtain ⟨w, hw, huw, runW, sendW⟩ := run_erases (h := false) (k := .cleanAfterBulk :: k) hu hLb hlenB
  rw [← callBulkEraseDevice_filled _ hsu.cache] at runW sendW
  have hcodes := sendsCodes_append_right runU sendW
  rw [hlenA] at hcodes
  exact ⟨u, w, hsu, huw, hw, (runOn_append_next runU bs).trans runW, hcodes⟩

/-- Settles O52: the run through both identity reads and both erases (`run_cleanDevice`), after which nothing waits. -/
theorem cleanDeviceCompletes : Obligations.CleanDeviceCompletes := by
  unfold Obligations.CleanDeviceCompletes
  intro s ⟨hb, _, hk, hl, _⟩ hs
  refine ⟨callCleanDevice [] s, by rw [← hk]; rfl,
    fun is f f0 f1 f2 f3 f4 hL hlen a a0 a1 a2 a3 a4 w w0 w1 w2 w3 w4 hok => ?_⟩
  obtain ⟨u, v, hsu, huv, hv, hrun, hcodes⟩ := run_cleanDevice (fiveFrames f0 f1 f2 f3 f4) (k := []) hs hb hl hL hlen ⟨a, w⟩
    (forall_fiveFrames (p := fun j f => answers is (162 + 54 * j) f ∧ wellFramed f) f4 ⟨a0, w0⟩ ⟨a1, w1⟩ ⟨a2, w2⟩ ⟨a3, w3⟩)
    ⟨a4, w4⟩ hok
  obtain ⟨hcache, hresult, -⟩ := huv.registers
  refine ⟨hcodes, _, hrun, ⟨rfl, rfl, rfl, hv.idle⟩, ?_, ?_, huv.data, huv.sen, huv.seq.trans hsu.seq, huv.ts, huv.label,
    hresult.trans hsu.result, hcache.trans hsu.cache⟩
  · exact huv.pm.trans (congrArg Line.commit hsu.pm)
  · exact huv.pwr.trans (congrArg Line.commit hsu.pwr)

/-! ### session (R204): the power-down tick by tick (R191, R200) -/

/-- The station at a tick of level `h`: its writes are pending at the high tick that makes them, committed at the low tick
after it (R62, R63). -/
def Station.tick (h : Bool) (x : Station) : Station := if h then x else x.commit

/-- THE RUN THROUGH THE STATIONS UNDER LOCKED: at each rising tick to the next, at each falling tick its writes committed. -/
theorem FollowEach.run_locked {s₀ : State} {n : Nat} {x : Nat → Station} (hx : FollowEach True s₀ n x) (is : List Input) :
    ∀ {h : Bool} {j : Nat} {s : State}, s.levels h → Powering True s₀ ((x j).tick h) s → lockedFrom h is = true →
      j + clockRises h is ≤ n →
      ∃ u, runOn is s = .next u ∧ Powering True s₀ ((x (j + clockRises h is)).tick (levelAfter h is.length)) u := by
  induction is with
  | nil =>
    intro h j s _ hp _ _
    exact ⟨s, rfl, by simpa [levelAfter, clockRises] using hp⟩
  | cons i is ih =>
    intro h j s hs hp hL hn
    obtain ⟨hi, hL'⟩ := lockedFrom_cons hL
    have hlevel : levelAfter h (i :: is).length = levelAfter (!h) is.length := by
      rw [List.length_cons, levelAfter, levelAfter]
      rcases Nat.mod_two_eq_zero_or_one is.length with e | e <;> cases h <;> simp [Nat.add_mod, e]
    obtain ⟨hrise, -, -⟩ := hi.events (s := s) (by rwa [Bool.not_not])
    rw [hlevel]
    cases h with
    | true =>
      have hcount : clockRises true (i :: is) = clockRises false is := by
        rw [clockRises, hi.clk]
        exact Nat.zero_add _
      rw [hcount] at hn ⊢
      have hstep := hp.step_quiet (hi.plain hs) hrise
      obtain ⟨u, hrun, hu⟩ := ih (s := (arrived i s).notify) ⟨(arrived_clk i s).trans hi.clk,
        (arrived_rawStb i s).trans (hi.rawLevel s.params)⟩ (hp.arrived fun _ => hi.force).notify hL' hn
      exact ⟨u, (runOn_cons_next hstep).trans hrun, hu⟩
    | false =>
      have hcount : clockRises false (i :: is) = 1 + clockRises true is := by
        rw [clockRises, hi.clk]
        rfl
      rw [hcount, ← Nat.add_assoc] at hn ⊢
      obtain ⟨t, hstep, ht, hclk, hraw⟩ := hx.step_next (by omega) (.inr hp) hi.rst (fun _ => hi.force) hrise
      obtain ⟨u, hrun, hu⟩ := ih (h := true) ⟨hclk.trans hi.clk, hraw.trans (hi.rawLevel s.params)⟩ ht hL' hn
      exact ⟨u, (runOn_cons_next hstep).trans hrun, hu⟩

/-- How often the clock rises over LOCKED inputs: at every second one (R62). -/
theorem clockRises_locked (is : List Input) : ∀ {h : Bool}, lockedFrom h is = true →
    clockRises h is = (is.length + (!h).toNat) / 2 := by
  induction is with
  | nil => intro h _; cases h <;> rfl
  | cons i is ih =>
    intro h hL
    obtain ⟨hi, hL'⟩ := lockedFrom_cons hL
    rw [clockRises, hi.clk, ih hL', List.length_cons]
    cases h with
    | true => simp
    | false => simp; omega

/-- `shutdown` from a high tick, for callers that end the request: the station after the first `m` of its eight ticks. -/
theorem run_shutdown_ticks {s : State} {c : List Frame} {is : List Input} {m : Nat} (hs : s.levels true)
    (hb : s.engine = .busy) (hl : s.labelProc = .idle) (hc : ∀ t, returnTo c 0#16 t = t.complete)
    (hL : lockedFrom true is = true) (hlen : m ≤ is.length) (hm : m ≤ 8) :
    ∃ u, runOn (is.take m) (callShutdown c s).notify = .next u ∧
      Powering True s ((shutdownStation s c (m / 2)).tick (levelAfter true m)) u := by
  obtain ⟨as, bs, rfl, hlenA, -, hLa, -⟩ := lockedFrom_split (n := m) (m := is.length - m) hL (by omega)
  rw [← hlenA, List.take_left]
  have hrises := clockRises_locked as hLa
  obtain ⟨u, hrun, hu⟩ := (followEach_shutdown s hc).run_locked as (s := (callShutdown c s).notify) (j := 0) hs
    (powering_callShutdown s hb hl) hLa (by rw [hrises]; simp; omega)
  refine ⟨u, hrun, ?_⟩
  rwa [hrises, Nat.zero_add] at hu

/-- The levels of the power lines after joined inputs, from where the first of them have led. -/
theorem powerAfter_append {is js : List Input} {s t u : State} {m : Nat} (hr : runOn is s = .next t)
    (hu : runOn (js.take m) t = .next u) :
    powerAfter (is ++ js) s (is.length + m) u.pm.cur u.pwr.cur u.sen.cur := by
  rw [powerAfter, List.take_length_add_append]
  exact ⟨u, (runOn_append_next hr _).trans hu, rfl, rfl, rfl⟩

/-- Settles O53: `cleanDevice` on an empty cache (`run_cleanDevice`), then the power-down, whose station after each tick
gives the levels of the lines (`run_shutdown_ticks`). -/
theorem sessionCompletes : Obligations.SessionCompletes := by
  unfold Obligations.SessionCompletes
  intro s ⟨hb, _, hk, hl, _⟩ hs
  refine ⟨callSession [] s, by rw [← hk]; rfl, rfl,
    fun is f f0 f1 f2 f3 f4 hL hlen a a0 a1 a2 a3 a4 w w0 w1 w2 w3 w4 hok => ?_⟩
  obtain ⟨as, bs, rfl, hlenA, hlenB, hLa, hLb⟩ := lockedFrom_split (n := 480) (m := 8) hL hlen
  have hans : ∀ {first : Nat} {f : WireFrame}, first < 450 → answers (as ++ bs) first f → answers as first f :=
    fun hlt ha => answers_append_left ha (by omega)
  obtain ⟨u, v, hsu, huv, hv, hrun, hcodes⟩ := run_cleanDevice (fiveFrames f0 f1 f2 f3 f4) (k := [.sessionAfterClean])
    (s := s.setCache IdentityCache.empty) hs hb hl hLa hlenA ⟨hans (by omega) a, w⟩
    (forall_fiveFrames (p := fun j f => answers as (162 + 54 * j) f ∧ wellFramed f) f4 ⟨hans (by omega) a0, w0⟩
      ⟨hans (by omega) a1, w1⟩ ⟨hans (by omega) a2, w2⟩ ⟨hans (by omega) a3, w3⟩) ⟨hans (by omega) a4, w4⟩ hok
  have hpm : v.pm = .on := huv.pm.trans (congrArg Line.commit hsu.pm)
  have hpwr : v.pwr = .on := huv.pwr.trans (congrArg Line.commit hsu.pwr)
  have hticks : ∀ m ≤ 8, ∃ u, runOn (bs.take m) (callShutdown [.sessionAfterShutdown] v).notify = .next u ∧
      Powering True v ((shutdownStation v [.sessionAfterShutdown] (m / 2)).tick (levelAfter true m)) u := fun m hm =>
    run_shutdown_ticks hv.levels hv.busy hv.idle (fun _ => rfl) hLb (by omega) hm
  have hpower : ∀ m ≤ 8, ∀ x, x = (shutdownStation v [.sessionAfterShutdown] (m / 2)).tick (levelAfter true m) →
      powerAfter (as ++ bs) (callSession [] s).notify (480 + m) x.pm.cur x.pwr.cur x.sen.cur := by
    rintro m hm x rfl
    obtain ⟨t, hrun', ht⟩ := hticks m hm
    have := powerAfter_append hrun hrun'
    rwa [hlenA, ht.pm, ht.pwr, ht.sen] at this
  obtain ⟨t, hrun', ht⟩ := hticks 8 (Nat.le_refl 8)
  rw [List.take_of_length_le (by omega)] at hrun'
  obtain ⟨hcache, hresult, -⟩ := keepsRegisters_trans huv.registers ht.registers
  refine ⟨sendsCodes_append_left hcodes (by simp [hlenA]) bs, ?_, ?_, ?_, ?_, t, (runOn_append_next hrun bs).trans hrun',
    ht.completed rfl, ⟨ht.pm, ht.pwr, ht.data, ht.sen, ht.seq⟩, ht.ts rfl trivial, ht.label rfl,
    hresult.trans hsu.result, hcache.trans hsu.cache⟩
  · simpa [shutdownStation, Station.tick, levelAfter, hpm, hpwr, huv.sen, Line.on, Line.write] using hpower 2 (by omega) _ rfl
  · simpa [shutdownStation, Station.tick, Station.commit, levelAfter, hpm, hpwr, huv.sen, Line.on, Line.write] using
      hpower 3 (by omega) _ rfl
  · simpa [shutdownStation, Station.tick, Station.commit, levelAfter, hpm, hpwr, Line.on, Line.reset, Line.write] using
      hpower 5 (by omega) _ rfl
  · simpa [shutdownStation, Station.tick, Station.commit, levelAfter, hpm, hpwr, Line.on, Line.reset, Line.write] using
      hpower 7 (by omega) _ rfl

end Sys2Proof.Machine
end

section
/-! Who writes the sequence state, from every state (R24, R194): the calls of `shutdown`, and the last edges of `start` and
`shutdown`. -/

namespace Sys2Proof.Machine

/-! ### Calls that leave the sequence state alone (R64) -/

theorem callSendCommand_seq (c : Cmd) (k : List Frame) (s : State) : (callSendCommand c k s).seq = s.seq := by
  rcases callSendCommand_cases c k s with ⟨-, e⟩ | ⟨-, e⟩ <;> rw [e] <;> rfl

theorem callSendCommandAndData_seq (c : Cmd) (d : Arg) (k : List Frame) (s : State) :
    (callSendCommandAndData c d k s).seq = s.seq := by
  rcases callSendCommandAndData_cases c d k s with ⟨-, e⟩ | ⟨-, -, e⟩ | ⟨-, -, e⟩ <;> rw [e] <;> rfl

theorem callSendCommandAndByteData_seq (c : Cmd) (d : Arg) (k : List Frame) (s : State) :
    (callSendCommandAndByteData c d k s).seq = s.seq := by
  rcases callSendCommandAndByteData_cases c d k s with ⟨-, e⟩ | ⟨-, -, e⟩ | ⟨-, -, e⟩ <;> rw [e] <;> rfl

theorem callSendCommandAndReadData_seq (c : Cmd) (k : List Frame) (s : State) :
    (callSendCommandAndReadData c k s).seq = s.seq := by
  rcases callSendCommandAndReadData_cases c k s with ⟨-, e⟩ | ⟨-, e⟩ <;> rw [e] <;> rfl

theorem callSendCommandAndReadByteData_seq (c : Cmd) (k : List Frame) (s : State) :
    (callSendCommandAndReadByteData c k s).seq = s.seq := by
  rcases callSendCommandAndReadByteData_cases c k s with ⟨-, e⟩ | ⟨-, e⟩ <;> rw [e] <;> rfl

theorem callVerb_seq (v : CommandLabel) {body : List Frame → State → State} (hb : ∀ k s, (body k s).seq = s.seq)
    (k : List Frame) (s : State) : (callVerb v body k s).seq = s.seq := hb _ _

theorem programVerify_seq (d : Arg) (w : Word14) (k : List Frame) (s : State) :
    (programVerify d w k s).seq = s.seq := by
  rcases programVerify_cases d w k s with ⟨-, e⟩ | ⟨-, e⟩ <;> rw [e] <;> rfl

theorem osccalLoop_seq (i : Nat) (k : List Frame) (s : State) : (osccalLoop i k s).seq = s.seq := by
  unfold osccalLoop
  split <;> rfl

theorem idSkipLoop_seq (i : Nat) (v : FiveWords) (k : List Frame) (s : State) : (idSkipLoop i v k s).seq = s.seq := by
  unfold idSkipLoop
  split <;> rfl

theorem idReadLoop_seq (n : Nat) (v : FiveWords) (k : List Frame) (s : State) : (idReadLoop n v k s).seq = s.seq := by
  rcases Nat.lt_or_ge n 4 with h | h
  · rw [idReadLoop_more v k s h]
    rfl
  · rw [idReadLoop_last v k s h]
    rfl

theorem callBulkEraseDevice_seq (k : List Frame) (s : State) : (callBulkEraseDevice k s).seq = s.seq := by
  rcases callBulkEraseDevice_cases k s with ⟨-, e⟩ | ⟨-, -, e⟩ | ⟨-, -, -, e⟩ | ⟨-, -, -, e⟩ <;> rw [e] <;> rfl

/-! ### Returns and instructions -/

/-- From `s` to `t` the sequence state stays, or `shutdown` has just been called (R194). -/
def SeqCalls (s t : State) : Prop :=
  t.seq = s.seq ∨ (t.seq = .shuttingDown ∧ ∃ c, t.main = some { point := .shutdownData, callers := c })

theorem seqCalls_callShutdown (k : List Frame) (s s' : State) : SeqCalls s (callShutdown k s') := .inr ⟨rfl, k, rfl⟩

/-- What a progress answers, and then what follows its return. -/
theorem SeqCalls.andThen {s : State} {p : Progress} {ret : WireFrame → State → State} (h : p.state.seq = s.seq)
    (hr : ∀ x t, SeqCalls t (ret x t)) : SeqCalls s (p.andThen ret) := by
  cases p with
  | waits t => exact .inl h
  | returns x t => exact (hr x t).imp_left fun e => e.trans h

theorem joinNext_seq (x : WireFrame) (k : List Frame) (s : State) : (joinNext x k s).state.seq = s.seq := by
  by_cases hf : s.labelProc = .finished
  · rw [joinNext_finished x k hf]
    rfl
  · rw [joinNext_waits x k hf]
    rfl

theorem branchEnds_seq (x : WireFrame) (k : List Frame) (s : State) : (branchEnds x k s).state.seq = s.seq := by
  rcases branchEnds_cases x k s with ⟨d, c, -, -, e⟩ | ⟨-, e⟩
  · rw [e]
    rfl
  · rw [e, joinNext_seq]

theorem callRest_seq (c : Nat) (k : List Frame) (s : State) : (callRest c k s).state.seq = s.seq := by
  rcases Nat.eq_zero_or_pos c with rfl | h
  · rfl
  · rw [callRest_pos k s h]
    rfl

/-- A return writes the sequence state only as it calls `shutdown` (R192, R199, R204). -/
theorem seqCalls_returnTo (k : List Frame) : ∀ (x : WireFrame) (s : State), SeqCalls s (returnTo k x s) := by
  induction k with
  | nil => intro x s; exact .inl rfl
  | cons f k ih =>
    intro x s
    cases f with
    | checkFrame p =>
      refine SeqCalls.andThen ?_ ih
      rcases checkFrameNext_cases p x s with ⟨-, e⟩ | ⟨-, e⟩ <;> rw [e] <;> rfl
    | timedRest c => exact SeqCalls.andThen (callRest_seq c k s) ih
    | join => exact SeqCalls.andThen (branchEnds_seq x k s) ih
    | osccalAfterRead =>
      refine SeqCalls.andThen ?_ ih
      rcases osccalStore_cases (x.setWidth 14) s with ⟨-, e⟩ | ⟨-, -, e⟩ <;> rw [e] <;> rfl
    | programAfterRead d => exact .inl (programVerify_seq d _ k s)
    | osccalAfterReset => exact .inl (osccalLoop_seq 1 k s)
    | osccalAfterIncrement i => exact .inl (osccalLoop_seq (i + 1) k s)
    | idAfterReset => exact .inl (callVerb_seq _ (callSendCommandAndData_seq _ _) _ s)
    | idAfterConfig => exact .inl (idReadLoop_seq 0 _ k s)
    | idAfterIncrement n v => exact .inl (idReadLoop_seq (n + 1) v k s)
    | idAfterSkip i v => exact .inl (idSkipLoop_seq (i + 1) v k s)
    | cleanAfterId => exact .inl (callBulkEraseDevice_seq _ s)
    | cleanAfterOsccal => exact seqCalls_callShutdown _ s s
    | sessionAfterClean => exact seqCalls_callShutdown _ s s
    | idAfterBandgap v => exact ih 0#16 (idStore (v.set 4 (x.setWidth 14)) s)
    | writeResult => exact ih x (s.setResult (x.setWidth 14))
    | resetAfterStart => exact ih 0#16 s
    | programAfterIncrement d w => exact ih 0#16 s
    | bulkAfterData => exact ih 0#16 s
    | cleanAfterBulk => exact ih 0#16 s
    | sessionAfterShutdown => exact ih 0#16 s
    | _ => exact .inl rfl

/-- The call of an instruction writes the sequence state only as it calls `shutdown` (R191, R192, R196, R197, R204). -/
theorem seqCalls_exec {i : Instr} {s t : State} (h : exec i s = .next t) : SeqCalls s t := by
  cases i <;> cases h
  case shutdown => exact seqCalls_callShutdown _ s s
  case reset => exact seqCalls_callShutdown _ s s
  case readOsccal => exact seqCalls_callShutdown _ s s
  case readIdBandgap => exact seqCalls_callShutdown _ s s
  case cleanDevice => exact seqCalls_callShutdown _ s s
  case session => exact seqCalls_callShutdown _ s _
  case rest n => exact SeqCalls.andThen (callRest_seq n.toNat s.callers s) (seqCalls_returnTo s.callers)
  case bulkEraseDevice => exact .inl (callBulkEraseDevice_seq _ s)
  case programCycle d => exact .inl (callVerb_seq _ (callSendCommandAndData_seq _ d) _ s)
  case loadConfig d => exact .inl (callVerb_seq _ (callSendCommandAndData_seq _ d) _ s)
  case loadProgram d => exact .inl (callVerb_seq _ (callSendCommandAndData_seq _ d) _ s)
  case loadData d => exact .inl (callVerb_seq _ (callSendCommandAndByteData_seq _ d) _ s)
  case sendCmd c => exact .inl (callSendCommand_seq c _ s)
  case sendCmdData c d => exact .inl (callSendCommandAndData_seq c d _ s)
  case sendCmdByte c d => exact .inl (callSendCommandAndByteData_seq c d _ s)
  case sendCmdRead c => exact .inl (callSendCommandAndReadData_seq c _ s)
  case sendCmdReadByte c => exact .inl (callSendCommandAndReadByteData_seq c _ s)
  all_goals exact .inl rfl

/-! ### The main process and its instant (R194) -/

/-- EVERYTHING AN INSTANT CAN DO TO THE SEQUENCE STATE: it stays or `shutdown` is called, at the last edge of `start` from
Running, at the last edge of `shutdown` from Uninitialized. -/
def SeqStep (e : Events) (s t : State) : Prop :=
  SeqCalls s t ∨
  (e.clkRise = true ∧ (∃ c, s.main = some { point := .startSen, callers := c }) ∧ SeqCalls (s.setSeq .running) t) ∨
  (e.clkRise = true ∧ (∃ c, s.main = some { point := .shutdownEnd, callers := c }) ∧ SeqCalls (s.setSeq .uninitialized) t)

theorem SeqStep.mono {e : Events} {s t t' : State} (h : SeqStep e s t) (hc : ∀ s', SeqCalls s' t → SeqCalls s' t') :
    SeqStep e s t' := h.imp (hc _) (Or.imp (fun ⟨he, hm, g⟩ => ⟨he, hm, hc _ g⟩) fun ⟨he, hm, g⟩ => ⟨he, hm, hc _ g⟩)

theorem seqCalls_restLoopFrom (c i : Nat) (k : List Frame) (s : State) :
    SeqCalls s ((restLoopFrom c i k s).andThen (returnTo k)) := by
  refine SeqCalls.andThen ?_ (seqCalls_returnTo k)
  rcases restLoopFrom_cases c i k s with e | e <;> rw [e] <;> rfl

/-- A suspended process at an instant. -/
theorem seqStep_resume {e : Events} {p : Process} {s : State} (hm : s.main = some p) : SeqStep e s (resume e p s) := by
  obtain ⟨pt, k⟩ := p
  cases hrel : pt.released e s with
  | false =>
    rw [resume, hrel]
    exact .inl (.inl rfl)
  | true =>
    rw [resume, hrel]
    cases pt with
    | startSen => exact .inr (.inl ⟨hrel, ⟨k, hm⟩, seqCalls_returnTo k 0#16 (startSenEdge s)⟩)
    | shutdownEnd => exact .inr (.inr ⟨hrel, ⟨k, hm⟩, seqCalls_returnTo k 0#16 (shutdownEndEdge s)⟩)
    | sendBit v n j =>
      refine .inl (SeqCalls.andThen ?_ (seqCalls_returnTo k))
      rcases Nat.lt_or_ge (j + 1) n with h | h
      · rw [sendBitEdge_more k s h]
        rfl
      · rw [sendBitEdge_last k s h]
        rfl
    | readBit n j r =>
      refine .inl (SeqCalls.andThen ?_ (seqCalls_returnTo k))
      rcases Nat.lt_or_ge (j + 1) n with h | h
      · rw [readBitEdge_more r k s h]
        rfl
      · rw [readBitEdge_last r k s h]
        rfl
    | restFirst c => exact .inl (seqCalls_restLoopFrom c 1 k ((s.setTs .rest).writeData false))
    | restLoop c i => exact .inl (seqCalls_restLoopFrom c (i + 1) k s)
    | joining x => exact .inl (SeqCalls.andThen (joinNext_seq x k s) (seqCalls_returnTo k))
    | _ => exact .inl (.inl rfl)

/-- The main process at an instant, whatever the state. -/
theorem seqStep_runMain {e : Events} {s t : State} (h : runMain e s = .next t) : SeqStep e s t := by
  unfold runMain at h
  split at h
  · cases h
    exact .inl (.inl rfl)
  · split at h
    · exact .inl (seqCalls_exec h)
    · cases h
      exact .inl (.inl rfl)
  · split at h
    · exact .inl (seqCalls_exec h)
    · cases h
  · rename_i p _ _ hm
    cases h
    exact seqStep_resume hm

/-- The parent of a fork goes on only from a join, where no call of `shutdown` has been made in the instant. -/
theorem SeqCalls.resumeJoin {s t : State} (h : SeqCalls s t) : SeqCalls s t.resumeJoin := by
  unfold State.resumeJoin
  split
  · rename_i x k hm
    split
    · have hseq : t.seq = s.seq := h.resolve_right fun ⟨_, c, hc⟩ => by cases hm.symm.trans hc
      exact (SeqCalls.andThen (joinNext_seq x k t) (seqCalls_returnTo k)).imp_left fun e => e.trans hseq
    · exact h
  · exact h

/-- What is left of the instant after the main process. -/
theorem SeqCalls.labelAfterMain {e : Events} {before s t : State} (h : SeqCalls s t) :
    SeqCalls s (labelAfterMain e before t) := by
  have hrun : SeqCalls s (t.runLabel e) := by
    rw [runLabel_eq]
    exact h
  unfold Machine.labelAfterMain
  split
  · exact h
  · exact h
  · split
    · rw [publishAtFault_eq]
      exact h
    · exact hrun.resumeJoin

/-- Step 7 of an instant, in either order of the processes. -/
theorem seqStep_runProcesses {e : Events} {i : Input} {s t : State} (h : runProcesses e i s = .next t) :
    SeqStep e s t := by
  unfold runProcesses at h
  split at h
  · cases hr : runMain e s with
    | next u =>
      rw [hr] at h
      cases h
      exact (seqStep_runMain hr).mono fun _ g => g.labelAfterMain
    | fault r => rw [hr] at h; cases h
    | refused r => rw [hr] at h; cases h
  · have g := seqStep_runMain h
    rw [runLabel_eq] at g
    exact g

/-- Settles O40: steps 2 to 6 leave the sequence state, and step 7 moves it as `SeqStep` says. -/
theorem seqWriters : Obligations.SeqWriters := by
  unfold Obligations.SeqWriters
  intro s t i hp h hne
  obtain ⟨u, hu, rfl⟩ := plainInstant_cases hp h
  obtain ⟨a, ha, hmain, hseq⟩ : ∃ a, (arrived i s).accept (instantEvents i s) i = a ∧
      (∀ pt c, pt ≠ .dispatch → a.main = some { point := pt, callers := c } →
        s.main = some { point := pt, callers := c }) ∧ a.seq = s.seq := by
    refine ⟨_, rfl, ?_⟩
    rcases accept_arrived_cases i s with ⟨-, e⟩ | ⟨-, e⟩ | ⟨-, e⟩
    · rw [e]
      exact ⟨fun pt c _ hm => (arrived_main i s).symm.trans hm, arrived_seq i s⟩
    · rw [e]
      exact ⟨nofun, arrived_seq i s⟩
    · rw [e]
      exact ⟨fun pt c hpt hm => by cases hm; exact absurd rfl hpt, arrived_seq i s⟩
  rw [ha] at hu
  rw [State.notify_seq] at hne ⊢
  have hshut : ∀ {a' : State}, SeqCalls a' u → u.seq ≠ a'.seq →
      u.seq = .shuttingDown ∧ ∃ c, u.main = some { point := .shutdownData, callers := c } := fun g hn =>
    g.resolve_left hn
  rcases seqStep_runProcesses hu with g | ⟨he, ⟨c, hm⟩, g⟩ | ⟨he, ⟨c, hm⟩, g⟩
  · obtain ⟨hs, c, hc⟩ := hshut g (hseq ▸ hne)
    rw [hs]
    exact ⟨nofun, fun _ => ⟨c, hc⟩, nofun⟩
  · refine ⟨fun _ => ⟨he, c, hmain _ c nofun hm⟩, fun hs => ?_, fun hs => ?_⟩
    · exact (hshut g (by rw [hs]; exact nofun)).2
    · cases hs.symm.trans (hshut g (by rw [hs]; exact nofun)).1
  · refine ⟨fun hs => ?_, fun hs => ?_, fun _ => ⟨he, c, hmain _ c nofun hm⟩⟩
    · cases hs.symm.trans (hshut g (by rw [hs]; exact nofun)).1
    · exact (hshut g (by rw [hs]; exact nofun)).2

end Sys2Proof.Machine
end

section
/-! The inputs of the host interface: what the force of TransportState makes of an instant (R226), what block reset leaves
(R227, R280), and the instruction that the host's window places (R105, R221; assumption log 2). -/

namespace Sys2Proof.Machine

/-! ### The force of TransportState (R226) -/

/-- The input without its force. -/
def unforced (i : Input) : Input := { i with tsForceValid := false }

/-- The force writes `ts` and nothing else (R226). -/
theorem force_eq (i : Input) (s : State) : s.force i = s.setTs (forceOn s.params i s.ts) := by
  rw [← forcedTs_eq_forceOn, forcedTs]
  unfold State.force
  split
  · split <;> rfl
  · rfl

/-- Steps 2 to 5 with a force are those that find `ts` at the forced value (R65, R226). -/
theorem arrived_eq_unforced (i : Input) (s : State) :
    arrived i s = arrived (unforced i) (s.setTs (forcedTs i s)) := by
  have hno : (unforced i).tsForceValid = false := rfl
  unfold arrived
  rw [force_eq, force_eq, forceOn_of_no_force hno, forcedTs_eq_forceOn]
  rfl

/-- An edge instant with a force is the one without that finds `ts` at the forced value, a reset instant too: only step 5
reads the force (R65, R226). -/
theorem step_eq_unforced {i : Input} {s : State} (he : (levelEvents s i).any = true) :
    step (s.feed i) = step ((s.setTs (forcedTs i s)).feed (unforced i)) := by
  have he' : (levelEvents (s.setTs (forcedTs i s)) (unforced i)).any = true := he
  cases hr : i.rst with
  | true => exact (step_of_reset he hr).trans (step_of_reset he' hr).symm
  | false =>
    have hp : plainInstant i s = true := by simp [plainInstant, he, hr]
    have hp' : plainInstant (unforced i) (s.setTs (forcedTs i s)) = true := hp
    rw [step_plain hp, arrived_eq_unforced i s]
    exact (step_plain hp').symm

/-- A code of R22 forces the value that it stands for (R226). -/
theorem forcedTs_of_code {i : Input} {s : State} {v : TransportState} (hp : s.params.hasTsForce = true)
    (hv : i.tsForceValid = true) (hc : i.tsForceVal = v.code) : forcedTs i s = v := by
  rw [forcedTs_eq_forceOn, forceOn, hp, hv, hc]
  cases v <;> rfl

/-- Without the force input, without a force on it, and at the value 3, `ts` stays (R226). -/
theorem forcedTs_of_ignored {i : Input} {s : State}
    (h : s.params.hasTsForce = false ∨ i.tsForceValid = false ∨ i.tsForceVal = 3) : forcedTs i s = s.ts := by
  rcases h with hp | hv | hc
  · rw [forcedTs_eq_forceOn, forceOn, hp]
    rfl
  · exact forcedTs_of_no_force hv
  · rw [forcedTs_eq_forceOn, forceOn, hc]
    exact ite_self _

/-- Settles O15: the instant is the one that finds `ts` at what the force makes of it (`step_eq_unforced`). -/
theorem forceActsInStepFive : Obligations.ForceActsInStepFive := by
  unfold Obligations.ForceActsInStepFive
  intro s i he
  have hstep := step_eq_unforced he
  refine ⟨fun v hp hv hc => ?_, fun h => ?_⟩
  · rw [forcedTs_of_code hp hv hc] at hstep
    exact hstep
  · rw [forcedTs_of_ignored h] at hstep
    exact hstep

/-! ### Block reset (R227, R280) -/

/-- Settles O9: a reset instant is block reset and the new levels (`step_of_reset`), and block reset is the table. -/
theorem blockResetAppliesTable : Obligations.BlockResetAppliesTable := by
  unfold Obligations.BlockResetAppliesTable
  intro s i he hr
  exact ⟨_, step_of_reset he hr, rfl, rfl, rfl, rfl, rfl, rfl, rfl, rfl, rfl, rfl⟩

/-! ### The host's window (assumption log 2) -/

/-- Bits that the decoder's window reads decode in the format they stand in. -/
theorem decode_of_decodeTableWord {nbits w : Nat} {ins : Instr} (h : decodeTableWord nbits w = some ins) :
    decode (encodedOfTable nbits w) = .ok ins := by
  unfold decodeTableWord at h
  split at h
  · rename_i j hd
    cases h
    exact hd
  · cases h

/-- What an instant without a force brings to the processes: the lines committed, the registers as they were (R63, R65). -/
theorem arrived_registers_of_no_force {i : Input} (h : i.tsForceValid = false) (s : State) :
    (arrived i s).pm = s.pm.commit ∧ (arrived i s).pwr = s.pwr.commit ∧ (arrived i s).data = s.data.commit ∧
    (arrived i s).sen = s.sen.commit ∧ (arrived i s).ts = s.ts ∧ (arrived i s).label = s.label ∧
    (arrived i s).seq = s.seq ∧ (arrived i s).cache = s.cache ∧ (arrived i s).result = s.result ∧
    (arrived i s).params = s.params :=
  have hregs := regsKept_arrived i s
  ⟨arrived_pm i s, arrived_pwr i s, arrived_data i s, arrived_sen i s, (arrived_ts i s).trans (forcedTs_of_no_force h),
    hregs.label, arrived_seq i s, hregs.cache, hregs.result, arrived_params i s⟩

/-- The idle engine to which the window presents a request. -/
def State.hosting (s : State) : State := { s with engine := .idle, main := none, labelProc := .idle, clk := false }

/-- The Busy engine in which the window places a transaction. -/
def State.holding (w : TransactionWord) (s : State) : State :=
  { s with engine := .busy, done := false, main := some { point := .transact w, callers := [] }, labelProc := .idle,
           clk := false }

/-- A placed request word is an input to the idle engine. -/
theorem place_request (s : State) (q : RequestWord) :
    s.place (.request q) = s.hosting.feed (requestInput s q) := rfl

/-- A placed transaction meets a quiet clock rise. -/
theorem place_transaction (s : State) (w : TransactionWord) :
    s.place (.transaction w) = (s.holding w).feed (quietInput s) := rfl

/-- Acceptance calls with nothing waiting for the return (R221). -/
theorem calling_accepted {i : Input} {s : State} (hl : s.labelProc = .idle) (hc : i.clk = true) :
    calling (accepted i s) :=
  ⟨rfl, rfl, rfl, (arrived_labelProc i s).trans hl, (arrived_clk i s).trans hc⟩

/-- A placed transaction is called with nothing waiting for the return (assumption log 7). -/
theorem calling_arrived_holding {i : Input} (w : TransactionWord) (s : State) (hc : i.clk = true) :
    calling (arrived i (s.holding w)) := by
  refine ⟨arrived_engine i _, ?_, ?_, arrived_labelProc i _, (arrived_clk i _).trans hc⟩
  · exact (regsKept_arrived i (s.holding w)).done
  · rw [State.callers, arrived_main]
    rfl

/-- Settles O18: the window's request is accepted (`stepRunsAcceptedRequest`), its transaction performed
(`stepRunsPlacedTransaction`), and what the window writes is none of the lines and registers spoken of. -/
theorem fetchedWordRuns : Obligations.FetchedWordRuns := by
  unfold Obligations.FetchedWordRuns
  intro s nbits w ins h
  have hd := decode_of_decodeTableWord h
  rw [State.withFetchWord]
  cases henc : encodedOfTable nbits w with
  | request q =>
    rw [henc] at hd
    rw [place_request]
    have hstep := stepRunsAcceptedRequest s.hosting (requestInput s q) ins rfl rfl rfl hd
    exact ⟨_, hstep, calling_accepted rfl rfl, arrived_registers_of_no_force (i := requestInput s q) rfl s.hosting⟩
  | transaction t =>
    rw [henc] at hd
    rw [place_transaction]
    have hp : plainInstant (quietInput s) (s.holding t) = true := rfl
    have hstep := (stepRunsPlacedTransaction (s.holding t) (quietInput s) t [] hp rfl rfl rfl).1 ins hd
    exact ⟨_, hstep, calling_arrived_holding t s rfl,
      arrived_registers_of_no_force (i := quietInput s) rfl (s.holding t)⟩

end Sys2Proof.Machine
end

section
/-! Which request can raise which fault (R251): what a return, a released process and the call of an instruction leave of the
calling frames and of the fault taken, and the step. -/

namespace Sys2Proof.Machine

/-! ### Frames that fit a request -/

theorem callersFit_iff (i : Instr) (k : List Frame) :
    callersFit i k = true ↔
      (∀ f ∈ k, ∀ e ∈ f.faults, e ∈ possibleFaults i) ∧ (.writeResult ∈ k → writesResult i = true) := by
  simp only [callersFit, Bool.and_eq_true, List.all_eq_true, List.contains_iff_mem, Bool.or_eq_true, Bool.not_eq_true',
    ← Bool.not_eq_true, ← imp_iff_not_or]

/-- The calling operation that waits at `f` may go on with the frames `fs` in its place: they raise nothing that `f` could
not raise, and write no result. -/
def Frame.goesOnAs (f : Frame) (fs : List Frame) : Bool :=
  fs.all fun g => g != .writeResult && g.faults.all f.faults.contains

section fits

variable {i : Instr} {f : Frame} {k : List Frame}

theorem callersFit_tail (h : callersFit i (f :: k) = true) : callersFit i k = true := by
  obtain ⟨hf, hw⟩ := (callersFit_iff _ _).mp h
  exact (callersFit_iff _ _).mpr ⟨fun g hg => hf g (List.mem_cons_of_mem f hg), fun hm => hw (List.mem_cons_of_mem f hm)⟩

theorem possible_of_callersFit {e : ErrorCode} (h : callersFit i (f :: k) = true) (he : e ∈ f.faults) :
    e ∈ possibleFaults i := ((callersFit_iff _ _).mp h).1 f List.mem_cons_self e he

/-- Frames that go on in the place of one that fits the request fit it too. -/
theorem callersFit_goesOn (fs : List Frame) (h : callersFit i (f :: k) = true) (hf : f.goesOnAs fs = true) :
    callersFit i (fs ++ k) = true := by
  obtain ⟨hfaults, hwrites⟩ := (callersFit_iff _ _).mp h
  have hfs : ∀ g ∈ fs, g ≠ .writeResult ∧ ∀ e ∈ g.faults, e ∈ f.faults := by
    simpa only [Frame.goesOnAs, List.all_eq_true, Bool.and_eq_true, bne_iff_ne, List.contains_iff_mem] using hf
  refine (callersFit_iff _ _).mpr ⟨fun g hg e he => ?_, fun hm => ?_⟩
  · rcases List.mem_append.mp hg with hg | hg
    · exact possible_of_callersFit h ((hfs g hg).2 e he)
    · exact hfaults g (List.mem_cons_of_mem f hg) e he
  · rcases List.mem_append.mp hm with hm | hm
    · exact absurd rfl (hfs _ hm).1
    · exact hwrites (List.mem_cons_of_mem f hm)

end fits

/-! ### The engine on behalf of an instruction -/

/-- The engine is doing what `i` asks for, or has stopped with a fault that `i` can raise (R251). -/
def OnRequest (i : Instr) (s : State) : Prop :=
  match s.main with
  | some p => callersFit i p.callers = true
  | none => s.engine = .faulted → s.errCode ∈ possibleFaults i

theorem requestInvariant_iff_onRequest {i : Instr} {s : State} (hd : decodeRequest s.req = .ok i) :
    requestInvariant s = true ↔ OnRequest i s := by
  unfold requestInvariant OnRequest
  rw [hd]
  cases s.main with
  | some p => rfl
  | none => simp [imp_iff_not_or]

/-- A live main process is there for a request that decodes (R35). -/
theorem onRequest_of_requestInvariant {s : State} {p : Process} (hm : s.main = some p) (h : requestInvariant s = true) :
    ∃ i, decodeRequest s.req = .ok i ∧ OnRequest i s := by
  cases hd : decodeRequest s.req with
  | ok i => exact ⟨i, rfl, (requestInvariant_iff_onRequest hd).mp h⟩
  | error e =>
    rw [requestInvariant, hm] at h
    dsimp only at h
    rw [hd] at h
    cases h

section onRequest

variable {i : Instr} {k : List Frame} {s : State}

theorem onRequest_suspend {p : Point} (h : callersFit i k = true) : OnRequest i (s.suspend p k) := h

theorem onRequest_raise {c : ErrorCode} {x : BitVec 32} (h : c ∈ possibleFaults i) : OnRequest i (s.raise c x) :=
  fun _ => h

theorem onRequest_complete : OnRequest i s.complete := nofun

/-- `rest` is called, or returns at once (R126, R129). -/
theorem onRequest_callRest_andThen {n : Nat} {ret : WireFrame → State → State} (h : callersFit i k = true)
    (hret : OnRequest i (ret 0#16 s)) : OnRequest i ((callRest n k s).andThen ret) := by
  rcases Nat.eq_zero_or_pos n with rfl | hn
  · exact hret
  · rw [callRest_pos k s hn]
    exact onRequest_suspend h

/-- A verb at its join waits for its label, or returns (R70, R161). -/
theorem onRequest_joinNext_andThen {x : WireFrame} {ret : WireFrame → State → State} (h : callersFit i k = true)
    (hret : OnRequest i (ret x (s.setLabelProc .idle))) : OnRequest i ((joinNext x k s).andThen ret) := by
  by_cases hf : s.labelProc = .finished
  · rw [joinNext_finished x k hf]
    exact hret
  · rw [joinNext_waits x k hf]
    exact onRequest_suspend h

/-- The loop of `rest` waits again, or returns (R126 to R128). -/
theorem onRequest_restLoopFrom_andThen {c j : Nat} {ret : WireFrame → State → State} (h : callersFit i k = true)
    (hret : OnRequest i (ret 0#16 (s.writeSen true))) : OnRequest i ((restLoopFrom c j k s).andThen ret) := by
  rcases restLoopFrom_cases c j k s with e | e
  · rw [e]
    exact onRequest_suspend h
  · rw [e]
    exact hret

theorem onRequest_programVerify {d : Arg} (w : Word14) (h : callersFit i (.programAfterRead d :: k) = true) :
    OnRequest i (programVerify d w k s) := by
  rcases programVerify_cases d w k s with ⟨-, e⟩ | ⟨-, e⟩
  · rw [e]
    exact onRequest_suspend (callersFit_goesOn [.join, .programAfterIncrement d w] h rfl)
  · rw [e]
    exact onRequest_raise (possible_of_callersFit h (by simp [Frame.faults]))

theorem onRequest_osccalLoop (j : Nat) (h : callersFit i (.osccalAfterRead :: k) = true) :
    OnRequest i (osccalLoop j k s) := by
  rcases Nat.lt_or_ge 3 j with hj | hj
  · rw [osccalLoop_last k s hj]
    exact onRequest_suspend (callersFit_goesOn [.readFrame .word, .join, .osccalAfterRead] h rfl)
  · rw [osccalLoop_more k s hj]
    exact onRequest_suspend (callersFit_goesOn [.join, .osccalAfterIncrement j] h rfl)

theorem onRequest_idSkipLoop (j : Nat) (v : FiveWords) (h : callersFit i (.idAfterConfig :: k) = true) :
    OnRequest i (idSkipLoop j v k s) := by
  rcases Nat.lt_or_ge 3 j with hj | hj
  · rw [idSkipLoop_last v k s hj]
    exact onRequest_suspend (callersFit_goesOn [.readFrame .word, .join, .idAfterBandgap v] h rfl)
  · rw [idSkipLoop_more v k s hj]
    exact onRequest_suspend (callersFit_goesOn [.join, .idAfterSkip j v] h rfl)

theorem onRequest_idReadLoop (n : Nat) (v : FiveWords) (h : callersFit i (.idAfterConfig :: k) = true) :
    OnRequest i (idReadLoop n v k s) := by
  rcases Nat.lt_or_ge n 4 with hn | hn
  · rw [idReadLoop_more v k s hn]
    exact onRequest_suspend (callersFit_goesOn [.readFrame .word, .join, .idAfterRead n v] h rfl)
  · rw [idReadLoop_last v k s hn]
    exact onRequest_suspend (callersFit_goesOn [.join, .idAfterSkip 1 v] h rfl)

/-- With the cache full no precondition of `bulkEraseDevice` fails (R198). -/
theorem callBulkEraseDevice_of_full (k : List Frame) (ho : s.cache.osccalValid = true) (hi : s.cache.idValid = true)
    (hg : s.cache.bandgapValid = true) : callBulkEraseDevice k s = callEraseProgram (.bulkAfterProgram :: k) s := by
  rcases callBulkEraseDevice_cases k s with ⟨g, -⟩ | ⟨-, g, -⟩ | ⟨-, -, g, -⟩ | ⟨-, -, -, e⟩
  · cases ho.symm.trans g
  · cases hi.symm.trans g
  · cases hg.symm.trans g
  · exact e

end onRequest

/-! ### Returns (R251) -/

/-- A RETURN TO FRAMES THAT FIT A REQUEST goes on with frames that fit it, or raises a fault of the request's row of R251.
PRECONDITION is none that CLEAN_DEVICE raises, because `bulkEraseDevice` is called there once both identity reads have
filled the cache. -/
theorem onRequest_returnTo {i : Instr} (k : List Frame) : ∀ (c : Callee) (x : WireFrame) (s : State),
    callersFit i k = true → nested c k = true → (.cleanAfterId ∈ k → s.cache.osccalValid = true) →
    (c = .identity → s.cache.idValid = true ∧ s.cache.bandgapValid = true) → OnRequest i (returnTo k x s) := by
  induction k with
  | nil => intro c x s _ _ _ _; exact onRequest_complete
  | cons f k ih =>
    intro c x s h hn ho hid
    obtain ⟨hw, hk⟩ := nested_cons.mp hn
    have hfit : callersFit i k = true := callersFit_tail h
    have hok : .cleanAfterId ∈ k → s.cache.osccalValid = true := fun hm => ho (List.mem_cons_of_mem f hm)
    cases f with
    | sendFrame f => exact onRequest_suspend hfit
    | readFrame p => exact onRequest_suspend (callersFit_goesOn [.checkFrame p] h rfl)
    | checkFrame p =>
      rw [returnTo]
      rcases checkFrameNext_cases p x s with ⟨-, e⟩ | ⟨-, e⟩
      · rw [e]
        exact ih .reading _ s hfit hk hok nofun
      · rw [e]
        exact onRequest_raise (possible_of_callersFit h (by simp [Frame.faults]))
    | timedRest n => exact onRequest_callRest_andThen hfit (ih .timed 0#16 s hfit hk hok nofun)
    | join =>
      rw [returnTo]
      rcases branchEnds_cases x k s with ⟨d, c, rfl, -, e⟩ | ⟨-, e⟩
      · rw [e]
        exact onRequest_raise (possible_of_callersFit hfit (by simp [Frame.faults]))
      · rw [e]
        exact onRequest_joinNext_andThen hfit (ih .verb x _ hfit hk hok nofun)
    | resetAfterShutdown => exact onRequest_suspend (callersFit_goesOn [.resetAfterStart] h rfl)
    | resetAfterStart => exact ih .reset 0#16 s hfit hk hok nofun
    | programAfterLoad d =>
      exact onRequest_suspend (callersFit_goesOn [.timedRest Config.tprogCycles, .join, .programAfterBegin d] h rfl)
    | programAfterBegin d =>
      exact onRequest_suspend (callersFit_goesOn [.readFrame .word, .join, .programAfterRead d] h rfl)
    | programAfterRead d => exact onRequest_programVerify _ h
    | programAfterIncrement d w => exact ih .program 0#16 s hfit hk hok nofun
    | osccalAfterReset => exact onRequest_osccalLoop 1 (callersFit_goesOn [.osccalAfterRead] h rfl)
    | osccalAfterIncrement j => exact onRequest_osccalLoop (j + 1) (callersFit_goesOn [.osccalAfterRead] h rfl)
    | osccalAfterRead =>
      rw [returnTo]
      rcases osccalStore_cases (x.setWidth 14) s with ⟨-, e⟩ | ⟨-, -, e⟩
      · rw [e]
        exact ih .osccal 0#16 _ hfit hk (fun _ => rfl) nofun
      · rw [e]
        exact onRequest_raise (possible_of_callersFit h (by simp [Frame.faults]))
    | idAfterReset =>
      exact onRequest_suspend (callersFit_goesOn [.sendFrame (writeFrame 0#16), .join, .idAfterConfig] h rfl)
    | idAfterConfig => exact onRequest_idReadLoop 0 _ h
    | idAfterRead n v => exact onRequest_suspend (callersFit_goesOn [.join, .idAfterIncrement n _] h rfl)
    | idAfterIncrement n v => exact onRequest_idReadLoop (n + 1) v (callersFit_goesOn [.idAfterConfig] h rfl)
    | idAfterSkip j v => exact onRequest_idSkipLoop (j + 1) v (callersFit_goesOn [.idAfterConfig] h rfl)
    | idAfterBandgap v => exact ih .identity 0#16 (idStore (v.set 4 (x.setWidth 14)) s) hfit hk hok fun _ => ⟨rfl, rfl⟩
    | bulkAfterProgram =>
      exact onRequest_suspend (callersFit_goesOn [.timedRest Config.teraseCycles, .join, .bulkAfterData] h rfl)
    | bulkAfterData => exact ih .bulk 0#16 s hfit hk hok nofun
    | cleanAfterOsccal =>
      exact onRequest_suspend (callersFit_goesOn [.resetAfterShutdown, .idAfterReset, .cleanAfterId] h rfl)
    | cleanAfterId =>
      obtain rfl : c = .identity := beq_iff_eq.mp hw
      obtain ⟨hi, hg⟩ := hid rfl
      rw [returnTo, callBulkEraseDevice_of_full _ (ho List.mem_cons_self) hi hg]
      exact onRequest_suspend
        (callersFit_goesOn [.timedRest Config.teraseCycles, .join, .bulkAfterProgram, .cleanAfterBulk] h rfl)
    | cleanAfterBulk => exact ih .clean 0#16 s hfit hk hok nofun
    | sessionAfterClean => exact onRequest_suspend (callersFit_goesOn [.sessionAfterShutdown] h rfl)
    | sessionAfterShutdown => exact ih .session 0#16 s hfit hk hok nofun
    | writeResult => exact ih .request x (s.setResult (x.setWidth 14)) hfit hk hok nofun

/-! ### A suspended process, and the call of an instruction -/

/-- A suspended process at an instant stays with its request (R67). -/
theorem onRequest_resume {i : Instr} {s : State} {p : Process} (e : Events) (hm : s.main = some p)
    (h : OnRequest i s) (hn : nested p.point.callee p.callers = true)
    (ho : .cleanAfterId ∈ p.callers → s.cache.osccalValid = true) : OnRequest i (resume e p s) := by
  obtain ⟨pt, k⟩ := p
  unfold resume
  split
  · have hfit : callersFit i k = true := by
      rw [OnRequest, hm] at h
      exact h
    cases pt with
    | dispatch => exact h
    | transact w => exact h
    | sendBit v n j =>
      rw [Point.goOn]
      rcases Nat.lt_or_ge (j + 1) n with hj | hj
      · rw [sendBitEdge_more k s hj]
        exact onRequest_suspend hfit
      · rw [sendBitEdge_last k s hj]
        exact onRequest_returnTo k .sendBits _ _ hfit hn ho nofun
    | readBit n j r =>
      rw [Point.goOn]
      rcases Nat.lt_or_ge (j + 1) n with hj | hj
      · rw [readBitEdge_more r k s hj]
        exact onRequest_suspend hfit
      · rw [readBitEdge_last r k s hj]
        exact onRequest_returnTo k .readBits _ _ hfit hn ho nofun
    | restFirst c => exact onRequest_restLoopFrom_andThen hfit (onRequest_returnTo k .rest _ _ hfit hn ho nofun)
    | restLoop c j => exact onRequest_restLoopFrom_andThen hfit (onRequest_returnTo k .rest _ _ hfit hn ho nofun)
    | startPm => exact onRequest_suspend hfit
    | startPwr => exact onRequest_suspend hfit
    | startSen => exact onRequest_returnTo k .start _ (startSenEdge s) hfit hn ho nofun
    | shutdownData => exact onRequest_suspend hfit
    | shutdownPm => exact onRequest_suspend hfit
    | shutdownPwr => exact onRequest_suspend hfit
    | shutdownEnd => exact onRequest_returnTo k .shutdown _ (shutdownEndEdge s) hfit hn ho nofun
    | joining x => exact onRequest_joinNext_andThen hfit (onRequest_returnTo k .verb x _ hfit hn ho nofun)
  · exact h

/-- The frames of a reading request (R143, R144, R222): its row of R251 has FRAME, and it writes `result`. -/
theorem callersFit_reading {i : Instr} {op : BitVec 5} {c : Cmd} {d : Arg} {fs : List Frame}
    (he : encode i = .request (packRequest op c d)) (hop : [0x15, 0x16, 0x1D, 0x1E].contains op.toNat = true)
    (hf : ∀ f ∈ fs, ∀ e ∈ f.faults, e ∈ possibleFaults i) : callersFit i fs = true :=
  (callersFit_iff _ _).mpr ⟨hf, fun _ => (writesResult_of_encode he).trans hop⟩

/-- A code and a word: the code is in range, or its range is in the request's row of R251 (R139, R140). -/
theorem onRequest_callSendCommandAndData {i : Instr} {c : Cmd} {k : List Frame} (d : Arg) (s : State)
    (hc : c.toNat < 64 ∨ ErrorCode.cmdWidth ∈ possibleFaults i) (hd : ErrorCode.dataWidth ∈ possibleFaults i)
    (h : callersFit i (.sendFrame (writeFrame d) :: k) = true) : OnRequest i (callSendCommandAndData c d k s) := by
  rcases callSendCommandAndData_cases c d k s with ⟨hw, e⟩ | ⟨-, -, e⟩ | ⟨-, -, e⟩ <;> rw [e]
  · exact onRequest_raise (hc.resolve_left (Nat.not_lt.mpr hw))
  · exact onRequest_raise hd
  · exact onRequest_suspend h

/-- A code and a byte, likewise (R139, R141). -/
theorem onRequest_callSendCommandAndByteData {i : Instr} {c : Cmd} {k : List Frame} (d : Arg) (s : State)
    (hc : c.toNat < 64 ∨ ErrorCode.cmdWidth ∈ possibleFaults i) (hd : ErrorCode.byteWidth ∈ possibleFaults i)
    (h : callersFit i (.sendFrame (writeFrame d) :: k) = true) : OnRequest i (callSendCommandAndByteData c d k s) := by
  rcases callSendCommandAndByteData_cases c d k s with ⟨hw, e⟩ | ⟨-, -, e⟩ | ⟨-, -, e⟩ <;> rw [e]
  · exact onRequest_raise (hc.resolve_left (Nat.not_lt.mpr hw))
  · exact onRequest_raise hd
  · exact onRequest_suspend h

/-- A verb goes on as its body does, in the fork (R161). -/
theorem onRequest_callVerb {i : Instr} {v : CommandLabel} {body : List Frame → State → State} {k : List Frame}
    {s : State} (h : OnRequest i (body (.join :: k) (s.setLabelProc (.waiting v)))) : OnRequest i (callVerb v body k s) := h

/-- THE CALL OF AN INSTRUCTION suspends with frames that fit it, or raises a fault of its row of R251; those that check no
operand and no precondition suspend at once. -/
theorem onRequest_exec {i : Instr} {s t : State} (hk : s.callers = []) (h : exec i s = .next t) : OnRequest i t := by
  cases i <;> cases h <;> rw [hk]
  case rest n => exact onRequest_callRest_andThen rfl onRequest_complete
  case bulkEraseDevice =>
    rcases callBulkEraseDevice_cases [] s with ⟨-, e⟩ | ⟨-, -, e⟩ | ⟨-, -, -, e⟩ | ⟨-, -, -, e⟩ <;> rw [e]
    · exact onRequest_raise (by simp [possibleFaults])
    · exact onRequest_raise (by simp [possibleFaults])
    · exact onRequest_raise (by simp [possibleFaults])
    · exact onRequest_suspend rfl
  case programCycle d =>
    exact onRequest_callVerb (onRequest_callSendCommandAndData d _ (.inl (by decide)) (by simp [possibleFaults]) rfl)
  case loadConfig d =>
    exact onRequest_callVerb (onRequest_callSendCommandAndData d _ (.inl (by decide)) (by simp [possibleFaults]) rfl)
  case loadProgram d =>
    exact onRequest_callVerb (onRequest_callSendCommandAndData d _ (.inl (by decide)) (by simp [possibleFaults]) rfl)
  case loadData d =>
    exact onRequest_callVerb (onRequest_callSendCommandAndByteData d _ (.inl (by decide)) (by simp [possibleFaults]) rfl)
  case sendCmdData c d =>
    exact onRequest_callSendCommandAndData d s (.inr (by simp [possibleFaults])) (by simp [possibleFaults]) rfl
  case sendCmdByte c d =>
    exact onRequest_callSendCommandAndByteData d s (.inr (by simp [possibleFaults])) (by simp [possibleFaults]) rfl
  case sendCmd c =>
    rcases callSendCommand_cases c [] s with ⟨-, e⟩ | ⟨-, e⟩ <;> rw [e]
    · exact onRequest_raise (by simp [possibleFaults])
    · exact onRequest_suspend rfl
  case sendCmdRead c =>
    rcases callSendCommandAndReadData_cases c [.writeResult] s with ⟨-, e⟩ | ⟨-, e⟩ <;> rw [e]
    · exact onRequest_raise (by simp [possibleFaults])
    · exact onRequest_suspend (callersFit_reading (c := c) (d := 0) rfl rfl (by simp [Frame.faults, possibleFaults]))
  case sendCmdReadByte c =>
    rcases callSendCommandAndReadByteData_cases c [.writeResult] s with ⟨-, e⟩ | ⟨-, e⟩ <;> rw [e]
    · exact onRequest_raise (by simp [possibleFaults])
    · exact onRequest_suspend (callersFit_reading (c := c) (d := 0) rfl rfl (by simp [Frame.faults, possibleFaults]))
  all_goals exact onRequest_suspend rfl

/-! ### The step -/

/-- A step is the step on the input that it takes. -/
theorem step_eq_feed (s : State) : step s = step (({ s with script := s.script.tail } : State).feed s.nextInput) := rfl

/-- An instant that accepts a request begins what it asks for, or faults as its row of R251 allows; an illegal word raises
ILLEGAL_REQUEST (R108, R221). -/
theorem requestInvariant_of_presented {s t : State} {i : Input} (hI : invariant s = true) (hr : i.rst = false)
    (hp : presented i s = true) (h : step (s.feed i) = .next t) : requestInvariant t = true := by
  cases hd : decodeRequest i.reqWord with
  | ok ins =>
    have hidle : s.engine = .idle := by simp_all [presented]
    have hl : s.labelProc = .idle := labelProc_of_idle ((invariant_iff s).mp hI).1 hidle
    obtain ⟨u, hu, hbus⟩ := exec_busKept ins (accepted i s)
    rw [stepRunsAcceptedRequest s i ins hr hp hl hd, hu] at h
    cases h
    have hdu : decodeRequest u.notify.req = .ok ins := by rw [State.notify_req, hbus.req]; exact hd
    have hon : OnRequest ins u := onRequest_exec rfl hu
    exact (requestInvariant_iff_onRequest hdu).mpr hon
  | error e =>
    obtain ⟨t', ht, ⟨-, hcode, hinfo, hmain, -⟩, hreq, -⟩ :=
      illegalRequestFaults s i hr hp ((decodeRequest_eq_error _).mp ⟨e, hd⟩)
    cases h.symm.trans ht
    rw [requestInvariant, hmain]
    dsimp only
    rw [hreq, hd]
    simp [hcode, hinfo]

/-- An instant without a request goes on with the one in `req` (R35). -/
theorem requestInvariant_of_not_presented {s t : State} {i : Input} (hI : invariant s = true)
    (hR : requestInvariant s = true) (hpl : plainInstant i s = true) (hp : presented i s = false)
    (h : step (s.feed i) = .next t) : requestInvariant t = true := by
  have hreq := req_of_plainInstant hpl h
  rw [hp] at hreq
  obtain ⟨u, rfl, hu⟩ := plainInstant_invariant_cases hI hpl h
  rcases hu with ⟨-, -, -, rfl⟩ | ⟨hp', -⟩ | ⟨hp', -⟩ | ⟨-, -, hS, p, hm, rfl⟩
  · simpa [requestInvariant] using hR
  · cases hp.symm.trans hp'
  · cases hp.symm.trans hp'
  · obtain ⟨ins, hd, hon⟩ := onRequest_of_requestInvariant hm hR
    have hma : (arrived i s).main = some p := (arrived_main i s).trans hm
    obtain ⟨-, hok⟩ := (mainOk_some hma).mp hS.1
    obtain ⟨-, -, -, hn, -, -, ho⟩ := (processOk_iff _ _ _).mp hok
    have hmr : ((arrived i s).runLabel (instantEvents i s)).main = some p := (runLabel_main _ _).trans hma
    have honr : OnRequest ins ((arrived i s).runLabel (instantEvents i s)) := by
      rw [OnRequest, hm] at hon
      rw [OnRequest, hmr]
      exact hon
    have hdu := (congrArg decodeRequest hreq).trans hd
    refine (requestInvariant_iff_onRequest hdu).mpr (onRequest_resume _ hmr honr hn fun hc => ?_)
    rw [runLabel_eq]
    exact ho hc

/-- A step on a given input keeps the table of R251 (R60, R65). -/
theorem requestInvariant_step_feed {s t : State} {i : Input} (hI : invariant s = true) (hR : requestInvariant s = true)
    (h : step (s.feed i) = .next t) : requestInvariant t = true := by
  cases he : (levelEvents s i).any with
  | false =>
    cases h.symm.trans (step_of_no_edge he)
    exact hR
  | true =>
    cases hr : i.rst with
    | true =>
      cases h.symm.trans (step_of_reset he hr)
      rfl
    | false =>
      cases hp : presented i s with
      | true => exact requestInvariant_of_presented hI hr hp h
      | false => exact requestInvariant_of_not_presented hI hR (by simp [plainInstant, he, hr]) hp h

/-- Settles O58: a request that is accepted begins with frames that fit its row of R251 (`onRequest_exec`), and a suspended
process goes on with frames that fit it, or faults as the row allows (`onRequest_returnTo`). -/
theorem requestInvariantKept : Obligations.RequestInvariantKept := by
  unfold Obligations.RequestInvariantKept
  intro s t hI hR h
  rw [step_eq_feed] at h
  exact requestInvariant_step_feed (s := { s with script := s.script.tail }) hI hR h

end Sys2Proof.Machine
end

section
/-! No way out of a fault without block reset (R253, R254, R287). -/

namespace Sys2Proof.Machine

/-- An engine that has stopped with a fault: no process is left (R253). -/
structure State.Stopped (s : State) : Prop where
  engine : s.engine = .faulted
  main : s.main = none
  labelProc : s.labelProc = .idle

/-- What inputs without block reset leave of a stopped engine: what a stall leaves alone, and the label; only a force writes
`ts` (R253, R254). -/
structure StopKept (is : List Input) (s u : State) : Prop where
  stopped : u.Stopped
  kept : StallKept s u
  label : u.label = s.label
  ts : noForce is = true → u.ts = s.ts

theorem StopKept.nil {s : State} (h : s.Stopped) : StopKept [] s s :=
  ⟨h, ⟨rfl, rfl, rfl, rfl, rfl, rfl, rfl, .inl ⟨rfl, rfl, rfl, rfl⟩⟩, rfl, fun _ => rfl⟩

theorem StopKept.cons {i : Input} {is : List Input} {s t u : State} (h : StopKept [i] s t) (g : StopKept is t u) :
    StopKept (i :: is) s u where
  stopped := g.stopped
  kept := h.kept.trans g.kept
  label := g.label.trans h.label
  ts := fun hf => by
    obtain ⟨hi, his⟩ := noForce_append (as := [i]) hf
    exact (g.ts his).trans (h.ts hi)

/-- A plain instant of a stopped engine is its steps 2 to 5 and the notification: nothing is accepted, and no process is
there to run (R221, R254). -/
theorem step_of_stopped {s : State} {i : Input} (h : s.Stopped) (hp : plainInstant i s = true) :
    step (s.feed i) = .next (arrived i s).notify := by
  have hfaulted : (arrived i s).engine ≠ .idle := by rw [arrived_engine, h.engine]; decide
  rw [step_plain hp, accept_of_not_idle hfaulted,
    runProcesses_none ((arrived_main i s).trans h.main) ((arrived_labelProc i s).trans h.labelProc)]
  rfl

/-- Steps 2 to 5 commit the lines and write no register but `ts`, which the force writes (R63, R226). -/
theorem stopKept_arrived {s : State} (i : Input) (h : s.Stopped) : StopKept [i] s (arrived i s).notify where
  stopped := ⟨(arrived_engine i s).trans h.engine, (arrived_main i s).trans h.main,
    (arrived_labelProc i s).trans h.labelProc⟩
  kept :=
    have hregs := regsKept_arrived i s
    ⟨hregs.done, arrived_errCode i s, arrived_errInfo i s, hregs.result, arrived_seq i s, hregs.cache, arrived_req i s,
      .inr ⟨arrived_pm i s, arrived_pwr i s, arrived_data i s, arrived_sen i s⟩⟩
  label := (regsKept_arrived i s).label
  ts := fun hf => (arrived_ts i s).trans (forcedTs_of_no_force (by simpa [noForce] using hf))

/-- A step of a stopped engine without block reset (R254). -/
theorem step_stopKept {s : State} {i : Input} (h : s.Stopped) (hr : i.rst = false) :
    ∃ t, step (s.feed i) = .next t ∧ StopKept [i] s t := by
  cases he : (levelEvents s i).any with
  | false =>
    have hnil := StopKept.nil h
    exact ⟨_, step_of_no_edge he, ⟨h.engine, h.main, h.labelProc⟩, { hnil.kept with }, hnil.label, fun _ => rfl⟩
  | true => exact ⟨_, step_of_stopped h (by simp [plainInstant, he, hr]), stopKept_arrived i h⟩

/-- Over any inputs without block reset a stopped engine stays stopped (R254). -/
theorem run_stopKept (is : List Input) : ∀ {s : State}, s.Stopped → noReset is = true →
    ∃ u, runOn is s = .next u ∧ StopKept is s u := by
  induction is with
  | nil => intro s h _; exact ⟨s, rfl, .nil h⟩
  | cons i is ih =>
    intro s h hr
    obtain ⟨hi, his⟩ := Bool.and_eq_true_iff.mp hr
    obtain ⟨t, ht, hst⟩ := step_stopKept h (i := i) (by simpa using hi)
    obtain ⟨u, hu, htu⟩ := ih hst.stopped his
    exact ⟨u, (runOn_cons_next ht).trans hu, hst.cons htu⟩

/-- Settles O55, by induction on the inputs: a step of a stopped engine at most commits its lines and takes the force. -/
theorem faultedStays : Obligations.FaultedStays := by
  unfold Obligations.FaultedStays
  intro s is he hm hl hr
  obtain ⟨u, hu, hstop, hk, hlabel, hts⟩ := run_stopKept is ⟨he, hm, hl⟩ hr
  exact ⟨u, hu, hstop.engine, hstop.main, hstop.labelProc, hk.errCode, hk.errInfo, hk.req, hk.done, hk.result, hlabel,
    hk.seq, hk.cache, hts, hk.lines⟩

end Sys2Proof.Machine
end

section
/-! The state after reset (R280), and START under every interleaving of the edges (R190, R282): the run through the stations
of `start` from the call of a request. -/

namespace Sys2Proof.Machine

/-- Settles O8: `State.reset` holds each register at its row of the table; the codes of the status port make Uninitialized,
None and NoError 0 and Rest 2 (R22 to R24, R250). -/
theorem resetState : Obligations.ResetState := by
  unfold Obligations.ResetState
  exact ⟨rfl, rfl, rfl, rfl, rfl, rfl, rfl, rfl, rfl⟩

/-- Settles O41: the run through the stations of `start` (`followEach_start`) to the third. -/
theorem startCompletes : Obligations.StartCompletes := by
  unfold Obligations.StartCompletes
  intro s ⟨hb, _, hk, hl, hclk⟩
  refine ⟨callStart [] s, by rw [← hk]; rfl, fun is hr he => ?_⟩
  rw [← hclk] at he
  obtain ⟨u, hrun, -, hend⟩ := (followEach_start (f := noForce is = true) s false fun _ => rfl).run is
    (.inl (powering_callStart (c := []) s hb hl)) hr id (by rw [Nat.zero_add]; exact Nat.le_of_eq he.1)
  have h := hend 3 he
  exact ⟨u, hrun, h.completed rfl, ⟨h.pm, h.pwr, h.data, h.sen, h.seq⟩, h.label rfl, h.ts rfl, h.registers⟩

end Sys2Proof.Machine
end
